-- ==== Sys2Proof/Word.lean ====
section
/-! DEFINITION. The word types of the sensor controller and the target tag of a geometry command. -/

namespace Sys2Proof

/-- A sensor register address or one byte on the two-wire bus (R70, R83). -/
abbrev Byte := BitVec 8

/-- The 16-bit unit of the controller: an operand, a result, a sensor register's data (R12, R70). -/
abbrev Word := BitVec 16

/-- A host register or a command word (R70, R110). -/
abbrev Word32 := BitVec 32

/-- The source's `which` tag, the W field of a geometry command: `active` is W = 0, `attempt` is W = 1,
which the spec writes `try` (R112). -/
inductive Target where
  | active
  | attempt
deriving DecidableEq, Repr

end Sys2Proof
end

