-- ==== Sys2Proof/Config.lean ====
section
/-! DEFINITION. The implementation parameters of the controller (R9), as one record that is fixed for the life of
an instance. R9 says a model takes them as arguments and that none of them is state; `step` has the state as its
only argument, so the record travels in `State.params`, where nothing ever writes it (DESIGN CHOICE, safe, assumption 1). -/

namespace Sys2Proof

/-- `P_VARIANT` (R9). -/
inductive Variant where
  | mt9v032
  | mt9v034
deriving DecidableEq, Repr

/-- `P_BIN_POLICY`: what STREAM_ON does with a binning ratio above 4 (R9, R232). -/
inductive BinPolicy where
  | reject
  | mask
deriving DecidableEq, Repr

/-- The parameters of R9. `P_PWR_CNT_MAX` has one value there, 65535, and is the constant
`Machine.pwrCntMax`. -/
structure Params where
  /-- `P_VARIANT`. -/
  variant : Variant
  /-- `P_DEV_ADDR`, the 7-bit bus address. -/
  devAddr : BitVec 7
  /-- `P_PCLK_INV`. -/
  pclkInv : Bool
  /-- `P_PCLK_INV_BIT`, 0..15. Its default 4 is PRESUMED (the spec's G1, assumption 13). -/
  pclkInvBit : Fin 16
  /-- `P_BIN_POLICY`. -/
  binPolicy : BinPolicy
  /-- `P_T_STAB`, in nanoseconds (the unit is a DESIGN CHOICE, assumption 2; safe: nothing computes with it). -/
  tStabNs : Nat
  /-- `P_FI_RESET_DEN`, 4..60. -/
  fiResetDen : BitVec 8
deriving DecidableEq, Repr

end Sys2Proof
end

