-- ==== Sys2Proof/Syntax.lean ====
section
/-! DEFINITION. The command set: one constructor for each row of the opcode table (R3, R114). -/

namespace Sys2Proof

/-- A command of the controller. A command word carries no immediate (R111), so the only argument is the W
field of the four geometry commands (R112); the operands stand in the latched ARG registers. -/
inductive Instr where
  | powerUp
  | powerDown
  | teardown
  | setCrop (w : Target)
  | getCrop (w : Target)
  | setFormat (w : Target)
  | getFormat (w : Target)
  | setAutoGain
  | setAnalogGain
  | setAutoExposure
  | setExposure
  | setTestPattern
  | streamOn
  | streamOff
  | openSession
  | closeSession
  | enumCode
  | enumSize
  | setFrameInterval
  | getFrameInterval
deriving DecidableEq, Repr

end Sys2Proof
end

