-- ==== Sys2Proof/WellFormed.lean ====
section
/-! DEFINITION. Well-formedness. Every term of `Instr` is a legal command: the W field is an argument of exactly the
four constructors that admit it, and a command word has no other operand field (R110, R111). What can be ill-formed
is an assembly line (its operands, R118) and a parameter record (its ranges, R9). -/

namespace Sys2Proof

/-- The commands whose word may have W = 1 (R113, R114). -/
def Instr.takesTarget : Instr → Bool
  | .setCrop _ | .getCrop _ | .setFormat _ | .getFormat _ => true
  | .powerUp | .powerDown | .teardown | .setAutoGain | .setAnalogGain | .setAutoExposure | .setExposure
  | .setTestPattern | .streamOn | .streamOff | .openSession | .closeSession | .enumCode | .enumSize
  | .setFrameInterval | .getFrameInterval => false

/-- How many of ARG0..ARG3 a command reads, counted from ARG0 (the operands column of R114). -/
def Instr.operandCount : Instr → Nat
  | .setCrop _ => 4
  | .setFormat _ | .setFrameInterval => 2
  | .setAutoGain | .setAnalogGain | .setAutoExposure | .setExposure | .setTestPattern | .enumCode | .enumSize => 1
  | .powerUp | .powerDown | .teardown | .getCrop _ | .getFormat _ | .streamOn | .streamOff | .openSession
  | .closeSession | .getFrameInterval => 0

/-- An assembly line `MNEMONIC[.active|.try] op0, …` of R118: the suffix is the target inside `instr`. -/
structure AsmLine where
  instr : Instr
  operands : List Nat
deriving DecidableEq, Repr

/-- Every operand is an unsigned integer 0..65535 (R118). -/
def AsmLine.operandsFit (l : AsmLine) : Bool := l.operands.all (fun x => decide (x ≤ 65535))

/-- The line has no more operands than its command reads. R118 gives the grammar up to four operands on any mnemonic and
says only that the operands a command reads are written and missing ones are 0; calling a line with more of them
ill-formed is the model's DESIGN CHOICE (safe, assumption 24). -/
def AsmLine.countFits (l : AsmLine) : Bool := decide (l.operands.length ≤ l.instr.operandCount)

/-- A well-formed assembly line (R118, with the DESIGN CHOICE of `countFits`, assumption 24). -/
def AsmLine.wellFormed (l : AsmLine) : Bool := l.operandsFit && l.countFits

/-- `P_T_STAB` is at least 1 µs (R9). -/
def Params.delayFits (p : Params) : Bool := decide (1000 ≤ p.tStabNs)

/-- `P_FI_RESET_DEN` is in 4..60 (R9). -/
def Params.intervalFits (p : Params) : Bool := decide (4 ≤ p.fiResetDen.toNat ∧ p.fiResetDen.toNat ≤ 60)

/-- A parameter record inside the ranges of R9; the other ranges are the fields' types. -/
def Params.wellFormed (p : Params) : Bool := p.delayFits && p.intervalFits

end Sys2Proof
end

