-- ==== Sys2Proof/Decode.lean ====
section
/-! DEFINITION. Decoding a command word (R110 to R116), and the encoder written from the same opcode map (R114,
R120). -/

namespace Sys2Proof

/-- Why a word is no command. -/
inductive Illegal where
  /-- RSVD, bits 31:9, is not 0 (R113, first check). -/
  | reservedBits
  /-- OPCODE, bits 7:0, is not in the opcode map (R113, second check). -/
  | unassignedOpcode
  /-- W, bit 8, is 1 and the command has no target (R113, third check). -/
  | targetNotAllowed
deriving DecidableEq, Repr

/-- What decoding a word yields: a command, or ILLEGAL with the check that failed (R113). -/
inductive Decoded where
  | command (i : Instr)
  | illegal (why : Illegal)
deriving DecidableEq, Repr

/-- OPCODE, bits 7:0 (R110). -/
def opcodeField (w : Word32) : Byte := w.extractLsb' 0 8

/-- W, bit 8 (R110). -/
def targetField (w : Word32) : Bool := w.getLsbD 8

/-- RSVD, bits 31:9 (R110). -/
def reservedField (w : Word32) : BitVec 23 := w.extractLsb' 9 23

/-- W = 0 is `active`, W = 1 is `try` (R112). -/
def targetOf (w : Bool) : Target := if w then .attempt else .active

/-- The opcode map (R114): the command an opcode names, given the target its W field selects. -/
def commandOf (opcode : Byte) (t : Target) : Option Instr :=
  match opcode.toNat with
  | 0x01 => some .powerUp
  | 0x02 => some .powerDown
  | 0x03 => some .teardown
  | 0x10 => some (.setCrop t)
  | 0x11 => some (.getCrop t)
  | 0x12 => some (.setFormat t)
  | 0x13 => some (.getFormat t)
  | 0x20 => some .setAutoGain
  | 0x21 => some .setAnalogGain
  | 0x22 => some .setAutoExposure
  | 0x23 => some .setExposure
  | 0x24 => some .setTestPattern
  | 0x30 => some .streamOn
  | 0x31 => some .streamOff
  | 0x40 => some .openSession
  | 0x41 => some .closeSession
  | 0x42 => some .enumCode
  | 0x43 => some .enumSize
  | 0x44 => some .setFrameInterval
  | 0x45 => some .getFrameInterval
  | _ => none

/-- The decode of an accepted command word, a total function whose checks stand in the order of R113. -/
def decode (w : Word32) : Decoded :=
  if reservedField w ≠ 0 then .illegal .reservedBits
  else
    match commandOf (opcodeField w) (targetOf (targetField w)) with
    | none => .illegal .unassignedOpcode
    | some i => if targetField w && !i.takesTarget then .illegal .targetNotAllowed else .command i

/-- The OPCODE of a command (R114). -/
def opcodeOf : Instr → Byte
  | .powerUp => 0x01
  | .powerDown => 0x02
  | .teardown => 0x03
  | .setCrop _ => 0x10
  | .getCrop _ => 0x11
  | .setFormat _ => 0x12
  | .getFormat _ => 0x13
  | .setAutoGain => 0x20
  | .setAnalogGain => 0x21
  | .setAutoExposure => 0x22
  | .setExposure => 0x23
  | .setTestPattern => 0x24
  | .streamOn => 0x30
  | .streamOff => 0x31
  | .openSession => 0x40
  | .closeSession => 0x41
  | .enumCode => 0x42
  | .enumSize => 0x43
  | .setFrameInterval => 0x44
  | .getFrameInterval => 0x45

/-- The W bit of a command: 1 for the `try` forms only (R112). -/
def targetBitOf : Instr → Bool
  | .setCrop t | .getCrop t | .setFormat t | .getFormat t => t == .attempt
  | .powerUp | .powerDown | .teardown | .setAutoGain | .setAnalogGain | .setAutoExposure | .setExposure
  | .setTestPattern | .streamOn | .streamOff | .openSession | .closeSession | .enumCode | .enumSize
  | .setFrameInterval | .getFrameInterval => false

/-- The word of a command (R110, R120). -/
def encode (i : Instr) : Word32 :=
  (opcodeOf i).setWidth 32 ||| (if targetBitOf i then 0x100 else 0)

/-- The instruction the decoder reads from an opcode-table row's bits. A command is one 32-bit word that the host
port carries whole (R77), so the bits are the word; bits from `nbits` up are 0. -/
def decodeTableWord (nbits w : Nat) : Option Instr :=
  match decode (BitVec.ofNat 32 (w % 2 ^ nbits)) with
  | .command i => some i
  | .illegal _ => none

end Sys2Proof
end

