-- ==== Sys2Proof/Machine/Constants.lean ====
section
/-! DEFINITION. Every numeric literal of the spec, each once (R9 to R11, R51, R79, R80; the spec's item I1 asks that
an unaudited literal can be corrected in one place: DESIGN CHOICE, unsafe if a literal is wrong, assumption 15). -/

namespace Sys2Proof.Machine

/-! ### Parameters and what derives from them (R9, R10) -/

/-- The default parameters of R9. -/
def defaultParams : Params :=
  { variant := .mt9v032, devAddr := 0x48, pclkInv := false, pclkInvBit := 4, binPolicy := .reject
    tStabNs := 1000, fiResetDen := 30 }

/-- `P_PWR_CNT_MAX` (R9). -/
def pwrCntMax : Word := 65535

/-- `EXP_MIN` (R10). -/
def expMin : Variant → Nat
  | .mt9v032 => 1
  | .mt9v034 => 0

/-- `EXP_MAX` (R10). -/
def expMax : Variant → Nat
  | .mt9v032 => 32767
  | .mt9v034 => 32765

/-- `HBLANK_MIN` (R10). -/
def hblankMin : Variant → Int
  | .mt9v032 => 43
  | .mt9v034 => 61

/-- `PIXEL_CLOCK_ADDR` (R10). -/
def pixelClockAddr : Variant → Byte
  | .mt9v032 => 0x74
  | .mt9v034 => 0x72

/-! ### Geometry constants (R11, R171, R232) -/

/-- The pixel array has 782 columns (R11). -/
def arrayColumns : Int := 782
/-- The pixel array has 492 rows (R11). -/
def arrayRows : Int := 492
/-- The default crop and format of R11. -/
def defaultLeft : Word := 1
def defaultTop : Word := 5
def defaultWidth : Word := 752
def defaultHeight : Word := 480
/-- The clamp bounds of SET_CROP (R171, 90_conflicts.md C3). -/
def leftMin : Int := 1
def leftMax : Int := 751
def topMin : Int := 5
def topMax : Int := 481
def extentMin : Int := 2
def widthMax : Int := 752
def heightMax : Int := 480
/-- The horizontal-blanking base (R11). -/
def hblankBase : Int := 660
/-- The largest binning ratio of the controller's state (R11, R170). -/
def ratioMax : Int := 8
/-- The largest ratio READ_MODE's two-bit field encodes (R11, R231). -/
def fieldRatioMax : Int := 4
/-- Frame-interval denominators are 4..60 (R11, R254). -/
def intervalDenMin : Nat := 4
def intervalDenMax : Nat := 60
/-- Size-enumeration indices are 1..8 (R11, R253). -/
def sizeIndexMin : Nat := 1
def sizeIndexMax : Nat := 8

/-! ### Control ranges and defaults (R43, R201) -/

def gainMin : Nat := 16
def gainMax : Nat := 64
def patternMax : Nat := 1023
def defaultGain : Byte := 16
def defaultExposure : Word := 480

/-! ### Format constants (R51; the numbers are PRESUMED, the spec's G2, unsafe, assumption 14) -/

/-- `FMT_CODE`, 10-bit Bayer GRBG (R51). -/
def fmtCode : Word := 0x300A
/-- `FIELD_CODE`, progressive (R51). -/
def fieldCode : Word := 1
/-- `CS_CODE`, sRGB (R51). -/
def csCode : Word := 8

/-! ### Sensor registers (R79) and the chip-version allow-list (R80) -/

def regChipVersion : Byte := 0x00
def regColumnStart : Byte := 0x01
def regRowStart : Byte := 0x02
def regWindowHeight : Byte := 0x03
def regWindowWidth : Byte := 0x04
def regHorizontalBlanking : Byte := 0x05
def regChipControl : Byte := 0x07
def regTotalShutterWidth : Byte := 0x0B
def regReset : Byte := 0x0C
def regReadMode : Byte := 0x0D
def regAnalogGain : Byte := 0x35
def regRowNoiseCorrControl : Byte := 0x70
def regTestPattern : Byte := 0x7F
def regAecAgcEnable : Byte := 0xAF

/-- CHIP_CONTROL's master-mode (3), output-enable (7) and sequential-readout (8) bits (R79, R232). -/
def streamBits : Word := 0x0188
/-- AEC_AGC_ENABLE bit 0 (R40, R79). -/
def aecBit : Word := 0x0001
/-- AEC_AGC_ENABLE bit 1 (R40, R79). -/
def agcBit : Word := 0x0002

/-- The CHIP_VERSION allow-list, the same for both variants (R80). -/
def chipAccepted (v : Word) : Bool := v == 0x1311 || v == 0x1313 || v == 0x1324

/-! ### Host register offsets (R73) -/

def offCmd : Byte := 0x00
def offStatus : Byte := 0x04
def offArg0 : Byte := 0x08
def offArg1 : Byte := 0x0C
def offArg2 : Byte := 0x10
def offArg3 : Byte := 0x14
def offRes0 : Byte := 0x18
def offRes1 : Byte := 0x1C
def offRes2 : Byte := 0x20
def offRes3 : Byte := 0x24
def offErrInfo : Byte := 0x28
def offChipVer : Byte := 0x2C

end Sys2Proof.Machine
end

