-- ==== Sys2Proof/Machine/State.lean ====
section
/-! DEFINITION. The state of the controller as plain data (R32 to R50, R58), the agents' inputs and the record of its
outputs, the fault and refusal types, and the state after reset (R57). -/

namespace Sys2Proof.Machine

/-- A crop rectangle over the pixel array (R41). -/
structure Crop where
  left : Word
  top : Word
  width : Word
  height : Word
deriving DecidableEq, Repr

/-- An output format size (R41); its pixel code, field and colour space are constants (R51). -/
structure Format where
  width : Word
  height : Word
deriving DecidableEq, Repr

/-- Four 16-bit registers: ARG0..ARG3, LARG0..LARG3 or RES0..RES3 (R44, R45). -/
structure Quad where
  r0 : Word
  r1 : Word
  r2 : Word
  r3 : Word
deriving DecidableEq, Repr

/-- CTL_AE: 0 = auto, 1 = manual (R43). -/
inductive ExposureMode where
  | auto
  | manual
deriving DecidableEq, Repr

/-- The result codes of R46 and R271; codes 7..15 are never written, so they have no constructor. -/
inductive ResultCode where
  | ok
  | busError
  | notPresent
  | precondition
  | invalidArgument
  | resourceError
  | illegalCommand
deriving DecidableEq, Repr

/-- SEQ = (opcode, step): `step` indexes the next action of the command's pseudocode (R31). The numbering from 0, with
the resource check first, is a DESIGN CHOICE (safe, assumption 7). -/
structure Seq where
  opcode : Byte
  step : Nat
deriving DecidableEq, Repr

/-- What a transaction does to its sensor register (R71). -/
inductive Transfer where
  | read
  | write (data : Word)
deriving DecidableEq, Repr

/-- One transaction of the bus master port: device address, register, kind and data (R71, R83). -/
structure Transaction where
  device : BitVec 7
  register : Byte
  transfer : Transfer
deriving DecidableEq, Repr

/-- The bus response (R71, R87, R88). The data of an acknowledge counts for a read only (DEDUCED, safe,
assumption 20). -/
inductive Reply where
  | ack (data : Word)
  | error
deriving DecidableEq, Repr

/-- One access on the host register port: a 32-bit word at an 8-bit offset (R71, R74). -/
inductive Access where
  | read (offset : Byte)
  | write (offset : Byte) (value : Word32)
deriving DecidableEq, Repr

/-- What the agents of R8 do to the controller, in the order in which it happens. -/
inductive Input where
  /-- A host register access. -/
  | access (a : Access)
  /-- The sequencer gets to run: it goes on until it waits for a bus response or its command ends. -/
  | turn
  /-- The sequencer performs only its next action (R31), so that an access can land between two actions (R307). -/
  | action
  /-- The bus answers the transaction in flight (R88). -/
  | reply (r : Reply)
  /-- `rst` is asserted, with `res_ok` as sampled (R300). -/
  | rstHigh (resOk : Bool)
  /-- `rst` is deasserted (R300). -/
  | rstLow
deriving DecidableEq, Repr

/-- What leaves the controller, and what it was answered, in order. The record is the model's own. -/
inductive Event where
  /-- ClockEnable() (R14). -/
  | clkOn
  /-- ClockDisable() (R14). -/
  | clkOff
  /-- Delay(P_T_STAB) (R14). -/
  | delay (ns : Nat)
  /-- A transaction goes out on the bus master port (R84, R85). -/
  | bus (t : Transaction)
  /-- The response to it arrived. -/
  | answer (r : Reply)
  /-- The host port returned `value` for a read at `offset` (R73). -/
  | hostRead (offset : Byte) (value : Word32)
  /-- Reset, which clears CLK_EN (R300). -/
  | rst
deriving DecidableEq, Repr

/-- The whole state. The fields up to `bus` are the spec's, under the names of R32; `rst` is the level of the
input of R71; `params`, `inputs` and `log` are the model's own. -/
structure State where
  /-- The parameters of R9; no step writes them. -/
  params : Params
  /-- FAILED (R33). -/
  failed : Bool
  /-- DETACHED (R34). -/
  detached : Bool
  /-- ABSENT (R35). -/
  absent : Bool
  /-- CLK_EN, an output (R36). -/
  clkEn : Bool
  /-- POWER_COUNT (R37). -/
  powerCount : Word
  /-- STREAM: true is streaming (R38). -/
  stream : Bool
  /-- SHADOW_CC, the mirror of CHIP_CONTROL (R39). -/
  shadowCc : Word
  /-- SHADOW_AA, the mirror of AEC_AGC_ENABLE (R40). -/
  shadowAa : Word
  /-- ACT_CROP (R41). -/
  actCrop : Crop
  /-- ACT_FMT (R41). -/
  actFmt : Format
  /-- TRY_CROP (R42). -/
  tryCrop : Crop
  /-- TRY_FMT (R42). -/
  tryFmt : Format
  /-- CTL_AG (R43). -/
  ctlAg : Bool
  /-- CTL_GAIN (R43). -/
  ctlGain : Byte
  /-- CTL_AE (R43). -/
  ctlAe : ExposureMode
  /-- CTL_EXP (R43). -/
  ctlExp : Word
  /-- CTL_TP (R43). -/
  ctlTp : Word
  /-- FI_DEN (R50). -/
  fiDen : Byte
  /-- CMD (R44). -/
  cmd : Word32
  /-- ARG0..ARG3 (R44). -/
  arg : Quad
  /-- LARG0..LARG3, the latched operands (R44). -/
  larg : Quad
  /-- RES0..RES3 (R45). -/
  res : Quad
  /-- BUSY (R46). -/
  busy : Bool
  /-- RESULT (R46). -/
  result : ResultCode
  /-- ERRINFO (R48). -/
  errInfo : Word
  /-- CHIPVER (R49). -/
  chipVer : Word
  /-- SEQ; none is "no command" (R31). -/
  seq : Option Seq
  /-- The transaction in flight; at most one exists (R58, R90). -/
  bus : Option Transaction
  /-- The level of the `rst` input (R71, R302). -/
  rst : Bool
  /-- What the other agents will do, in order (the model's own: DESIGN CHOICE, safe, assumption 3). -/
  inputs : List Input
  /-- What has left the controller so far, oldest first (the model's own: DESIGN CHOICE, safe, assumption 4). -/
  log : List Event
deriving DecidableEq, Repr

/-- Why the machine stops. The controller never stops: its exceptions are result codes (R270), every word decodes to a
command or to ILLEGAL_COMMAND (R113), and an unanswered transaction is waited for (R84). So there is no reason, and
no step can answer with a fault (DEDUCED, safe: nothing is excluded, assumption 21). -/
inductive Fault where
deriving DecidableEq, Repr

/-- Why the model gives an instruction no meaning. -/
inductive Refusal where
  /-- Raised by an arm of `exec` whose instruction has no meaning yet; there is none in this model. Safe. -/
  | notModelled (mnemonic : String)
deriving DecidableEq, Repr

/-- What a step answers. -/
abbrev Result := Host.Outcome State Fault Refusal

/-- The default crop {1, 5, 752, 480} (R11). -/
def defaultCrop : Crop :=
  { left := defaultLeft, top := defaultTop, width := defaultWidth, height := defaultHeight }

/-- The default format 752 × 480 (R11). -/
def defaultFormat : Format := { width := defaultWidth, height := defaultHeight }

/-- Four zero registers. -/
def zeroQuad : Quad := { r0 := 0, r1 := 0, r2 := 0, r3 := 0 }

/-- Every state element at its reset value (R57), for an instance with parameters `p` whose `res_ok` input was `resOk`
when reset sampled it (R33). -/
def State.afterReset (p : Params) (resOk : Bool) : State :=
  { params := p
    failed := !resOk
    detached := false
    absent := false
    clkEn := false
    powerCount := 0
    stream := false
    shadowCc := 0x0000
    shadowAa := 0x0003
    actCrop := defaultCrop
    actFmt := defaultFormat
    tryCrop := defaultCrop
    tryFmt := defaultFormat
    ctlAg := true
    ctlGain := defaultGain
    ctlAe := .auto
    ctlExp := defaultExposure
    ctlTp := 0
    fiDen := p.fiResetDen
    cmd := 0
    arg := zeroQuad
    larg := zeroQuad
    res := zeroQuad
    busy := false
    result := .ok
    errInfo := 0
    chipVer := 0
    seq := none
    bus := none
    rst := false
    inputs := []
    log := [] }

/-- The machine right after reset, with the default parameters of R9 and `res_ok` = 1 (both are the model's choice
among what R9 and R33 admit: DESIGN CHOICE, unsafe, assumption 5), with `rst` deasserted and nothing placed. -/
def State.reset : State := State.afterReset defaultParams true

end Sys2Proof.Machine
end

