-- ==== Sys2Proof/Machine/Flags.lean ====
section
/-! DEFINITION. The status flags: the result-code numbering and the STATUS word (R46, R47, R59). -/

namespace Sys2Proof.Machine

/-- The number of a result code, RESULT's four bits (R46, R271). -/
def resultBits : ResultCode → BitVec 4
  | .ok => 0
  | .busError => 1
  | .notPresent => 2
  | .precondition => 3
  | .invalidArgument => 4
  | .resourceError => 5
  | .illegalCommand => 6

/-- A flag placed at bit `n` of a host register. -/
def flagAt (n : Nat) (b : Bool) : Word32 := if b then 1#32 <<< n else 0

/-- STATUS, assembled from the state at the moment of the read (R47). -/
def State.status (s : State) : Word32 :=
  flagAt 0 s.busy ||| flagAt 1 s.stream ||| flagAt 2 s.clkEn ||| flagAt 3 s.absent
    ||| flagAt 4 s.failed ||| flagAt 5 s.detached
    ||| ((resultBits s.result).setWidth 32 <<< 8) ||| (s.powerCount.setWidth 32 <<< 16)

/-- What ERRINFO holds after a failing transaction: the register, and bit 8 for a read (R48, R87). -/
def errInfoOf (t : Transaction) : Word :=
  (match t.transfer with
    | .read => 0x100
    | .write _ => 0) ||| t.register.setWidth 16

end Sys2Proof.Machine
end

