-- ==== Sys2Proof/Machine/Operands.lean ====
section
/-! DEFINITION. Operands: the latched arguments A[0]..A[3] and the target of a geometry command (R111, R112). -/

namespace Sys2Proof.Machine

/-- A[0] as the latched word (R14, R44). -/
def State.a0 (s : State) : Word := s.larg.r0
/-- A[1]. -/
def State.a1 (s : State) : Word := s.larg.r1
/-- A[2]. -/
def State.a2 (s : State) : Word := s.larg.r2
/-- A[3]. -/
def State.a3 (s : State) : Word := s.larg.r3

/-- A 16-bit value zero-extended into ℤ, as every operand enters geometry arithmetic (R13, R111). -/
def widen (x : Word) : Int := (x.toNat : Int)

/-- A result of geometry arithmetic stored back in 16 bits. The rules produce values in 0..65535 only (R13). -/
def narrow (x : Int) : Word := BitVec.ofInt 16 x

/-- CROP(W) (R112). -/
def State.crop (s : State) : Target → Crop
  | .active => s.actCrop
  | .attempt => s.tryCrop

/-- FMT(W) (R112). -/
def State.fmt (s : State) : Target → Format
  | .active => s.actFmt
  | .attempt => s.tryFmt

/-- CROP(W) <- c (R112). -/
def State.withCrop (s : State) (w : Target) (c : Crop) : State :=
  match w with
  | .active => { s with actCrop := c }
  | .attempt => { s with tryCrop := c }

/-- FMT(W) <- f (R112). -/
def State.withFmt (s : State) (w : Target) (f : Format) : State :=
  match w with
  | .active => { s with actFmt := f }
  | .attempt => { s with tryFmt := f }

end Sys2Proof.Machine
end

