-- ==== Sys2Proof/Machine/Ops.lean ====
section
/-! DEFINITION. The named operations: the host register block (R72 to R76), command acceptance and completion (R72,
R274), reset (R300), and the actions from which every command's pseudocode is built (R14), with the runner that
performs them in order (R90). -/

namespace Sys2Proof.Machine

/-! ### Recording and completing -/

/-- Appends one event to the record of outputs. -/
def State.emit (s : State) (e : Event) : State := { s with log := s.log ++ [e] }

/-- A command completes with code `c`: RESULT, BUSY and SEQ are written in one step (R31, R72). -/
def State.complete (s : State) (c : ResultCode) : State := { s with result := c, busy := false, seq := none }

/-- `raise c`: the shared exception entry. It ends the command at once, saves nothing and redirects nothing (R274,
R280). There is no return from it: the controller is then idle and accepts the next command (R281). -/
def State.raise (s : State) (c : ResultCode) : State := s.complete c

/-- A failing transaction writes ERRINFO and raises BusError (R87). -/
def State.raiseBusError (s : State) (t : Transaction) : State := { s with errInfo := errInfoOf t }.raise .busError

/-! ### The host register block -/

/-- The word a read at `offset` returns. Offset bits 1:0 are ignored (R74), and a reserved offset reads 0 (R75). -/
def State.hostWord (s : State) (offset : Byte) : Word32 :=
  let o := offset &&& 0xFC
  if o = offCmd then s.cmd
  else if o = offStatus then s.status
  else if o = offArg0 then s.arg.r0.setWidth 32
  else if o = offArg1 then s.arg.r1.setWidth 32
  else if o = offArg2 then s.arg.r2.setWidth 32
  else if o = offArg3 then s.arg.r3.setWidth 32
  else if o = offRes0 then s.res.r0.setWidth 32
  else if o = offRes1 then s.res.r1.setWidth 32
  else if o = offRes2 then s.res.r2.setWidth 32
  else if o = offRes3 then s.res.r3.setWidth 32
  else if o = offErrInfo then s.errInfo.setWidth 32
  else if o = offChipVer then s.chipVer.setWidth 32
  else 0

/-- The acceptance of a command word, one indivisible step (R72). -/
def State.accept (s : State) (w : Word32) : State :=
  { s with cmd := w, larg := s.arg, busy := true, seq := some { opcode := opcodeField w, step := 0 } }

/-- A host write of `v` at `offset`. Writes are ignored while `rst` is asserted (R302); a CMD write is accepted only
while BUSY = 0 (R72); a write to a read-only or reserved offset has no effect (R75). -/
def State.hostWrite (s : State) (offset : Byte) (v : Word32) : State :=
  let o := offset &&& 0xFC
  if s.rst then s
  else if o = offCmd then (if s.busy then s else s.accept v)
  else if o = offArg0 then { s with arg := { s.arg with r0 := v.setWidth 16 } }
  else if o = offArg1 then { s with arg := { s.arg with r1 := v.setWidth 16 } }
  else if o = offArg2 then { s with arg := { s.arg with r2 := v.setWidth 16 } }
  else if o = offArg3 then { s with arg := { s.arg with r3 := v.setWidth 16 } }
  else s

/-- One host access; a read has no effect but the word it returns (R76). -/
def State.hostAccess (s : State) : Access → State
  | .read offset => s.emit (.hostRead offset (s.hostWord offset))
  | .write offset v => s.hostWrite offset v

/-! ### Reset -/

/-- `rst` is asserted: the running command and its transaction are abandoned, and every state element takes its reset
value, with FAILED <- NOT res_ok (R300). The parameters, the pending inputs and the record of outputs are no state
of the controller and stay (R302). A further assertion samples `res_ok` again (DEDUCED, safe, assumption 19). -/
def State.assertRst (s : State) (resOk : Bool) : State :=
  { State.afterReset s.params resOk with rst := true, inputs := s.inputs, log := s.log ++ [.rst] }

/-- `rst` is deasserted: the controller is idle and accepts the next CMD write (R300). -/
def State.releaseRst (s : State) : State := { s with rst := false }

/-! ### Actions -/

/-- What performing one action of a command leads to. -/
inductive Progress where
  /-- The sequencer goes on, passing over the next `skip` actions of the script. -/
  | go (skip : Nat) (s : State)
  /-- The sequencer moves no further: its command has ended, or it waits for a bus response. -/
  | halt (s : State)

/-- One action of a command's pseudocode. -/
abbrev Action := State → Progress

/-- `x <- v`: a change of internal state (R14). -/
def update (f : State → State) : Action := fun s => .go 0 (f s)

/-- `if c: raise code` (R14, R274). -/
def raiseIf (c : State → Bool) (code : ResultCode) : Action := fun s =>
  if c s then .halt (s.raise code) else .go 0 s

/-- `if c: complete(OK)` (R14). -/
def completeIf (c : State → Bool) : Action := fun s =>
  if c s then .halt (s.complete .ok) else .go 0 s

/-- A branch: when `c` holds, the next `n` actions are not performed. -/
def skipIf (c : State → Bool) (n : Nat) : Action := fun s => .go (if c s then n else 0) s

/-- `complete(OK)`, after the RESi writes `f` of the command's rule, in one step (R45, R72). -/
def completeWith (f : State → State) : Action := fun s => .halt ((f s).complete .ok)

/-- `complete(OK)` of a command that writes no RESi. -/
def completeOk : Action := completeWith (fun s => s)

/-- The resource check of the common prologue (R140, R276); decoding comes before it, in the sequencer. -/
def prologue : Action := raiseIf (fun s => s.failed || s.detached) .resourceError

/-- ClockEnable() (R14, R36). -/
def clockEnable : Action := update (fun s => { s with clkEn := true }.emit .clkOn)

/-- ClockDisable() (R14, R36). -/
def clockDisable : Action := update (fun s => { s with clkEn := false }.emit .clkOff)

/-- Delay(P_T_STAB) (R14, R308). -/
def delay : Action := update (fun s => s.emit (.delay s.params.tStabNs))

/-- The transaction goes out, unless it is in flight already (R84, R85, R90). -/
def State.issue (s : State) (t : Transaction) : State :=
  match s.bus with
  | some _ => s
  | none => { s with bus := some t, log := s.log ++ [.bus t] }

/-- The response `r` is taken, and no transaction is in flight any more. -/
def State.answered (s : State) (r : Reply) (rest : List Input) : State :=
  { s with bus := none, inputs := rest, log := s.log ++ [.answer r] }

/-- A shadow takes the value written when a write to its register is acknowledged, and at no other time (R92). -/
def State.shadowed (s : State) (t : Transaction) : State :=
  match t.transfer with
  | .read => s
  | .write v =>
    if t.register = regChipControl then { s with shadowCc := v }
    else if t.register = regAecAgcEnable then { s with shadowAa := v }
    else s

/-- One bus transaction (R84, R85, R87): it is issued, the sequencer waits for its response, an acknowledge lets the
command go on through `onAck`, and an error ends it with BUS_ERROR. -/
def transact (t : State → Transaction) (onAck : Word → State → State) : Action := fun s =>
  let s' := s.issue (t s)
  match s'.inputs with
  | .reply (.ack d) :: rest => .go 0 (onAck d ((s'.answered (.ack d) rest).shadowed (t s)))
  | .reply .error :: rest => .halt ((s'.answered .error rest).raiseBusError (t s))
  | _ => .halt s'

/-- `MemRead(r, 2)`, whose value goes to `onAck` (R84). -/
def memRead (r : Byte) (onAck : Word → State → State) : Action :=
  transact (fun s => { device := s.params.devAddr, register := r, transfer := .read }) onAck

/-- `MemWrite(r, 2, v)` (R85), then `after` in the same step as the acknowledge (R92, R141; DEDUCED for STREAM_ON and
STREAM_OFF, unsafe, assumption 22). -/
def memWriteThen (r : State → Byte) (v : State → Word) (after : State → State) : Action :=
  transact (fun s => { device := s.params.devAddr, register := r s, transfer := .write (v s) }) (fun _ s => after s)

/-- `MemWrite(r, 2, v)` (R85). -/
def memWrite (r : Byte) (v : State → Word) : Action := memWriteThen (fun _ => r) v (fun s => s)

/-- `if c:` before an action. -/
def onlyIf (c : State → Bool) (a : Action) : Action := fun s => if c s then a s else .go 0 s

/-! ### The runner -/

/-- The index of the sequencer's next action (R31). -/
def State.seqStep (s : State) : Nat :=
  match s.seq with
  | none => 0
  | some q => q.step

/-- SEQ moves on by `n` actions (R31). -/
def State.advance (s : State) (n : Nat) : State :=
  { s with seq := s.seq.map (fun q => { q with step := q.step + n }) }

/-- Performs a script's actions in order (R90), passing over the first `skip` of them, until the command ends or waits
for a bus response. -/
def runActions : List Action → Nat → State → State
  | [], _, s => s
  | _ :: as, n + 1, s => runActions as n s
  | a :: as, 0, s =>
    match a s with
    | .go n s' => runActions as n (s'.advance (n + 1))
    | .halt s' => s'

/-- Runs a command's script from the sequencer's next action. -/
def runScript (script : List Action) (s : State) : State := runActions script s.seqStep s

/-- Performs the sequencer's next action only. -/
def runAction (script : List Action) (s : State) : State :=
  match script[s.seqStep]? with
  | none => s
  | some a =>
    match a s with
    | .go n s' => s'.advance (n + 1)
    | .halt s' => s'

/-- The meaning a script gives its command. -/
def runCommand (script : List Action) (s : State) : Result := .next (runScript script s)

end Sys2Proof.Machine
end

