-- ==== Sys2Proof/Machine/Controls.lean ====
section
/-! DEFINITION. The control commands (42_controls.md): range check, write-through while powered, cache update (R200),
the TEST_PATTERN value (R207), and the replay of all cached controls (R208). -/

namespace Sys2Proof.Machine

/-- Powered means POWER_COUNT > 0 (R37, R200). -/
def State.powered (s : State) : Bool := s.powerCount != 0

/-- AEC_AGC_ENABLE with bit 1, AGC, replaced (R202, R208). -/
def withAgc (shadow : Word) (on : Bool) : Word := (shadow &&& ~~~agcBit) ||| (if on then agcBit else 0)

/-- AEC_AGC_ENABLE with bit 0, AEC, replaced: automatic exposure sets it (R204, R208). -/
def withAec (shadow : Word) (mode : ExposureMode) : Word :=
  (shadow &&& ~~~aecBit) |||
    (match mode with
      | .auto => aecBit
      | .manual => 0)

/-- The auto-gain value of an operand in 0..1 (R202). -/
def gainSwitch (a : Word) : Bool := a != 0

/-- The exposure mode of an operand in 0..1: 0 = auto, 1 = manual (R201, R204). -/
def exposureMode (a : Word) : ExposureMode := if a = 0 then .auto else .manual

/-- TPVAL(n), the TEST_PATTERN value of selector n in 0..1023 (R207). -/
def testPatternValue (n : Word) : Word :=
  if n.toNat = 0 then 0
  else if n.toNat ≤ 3 then (n <<< 11) ||| (1#16 <<< 13)
  else (1#16 <<< 14) ||| (1#16 <<< 13) ||| (1#16 <<< 10) ||| (n &&& 0x3FF)

/-! ### REPLAY -/

/-- `REPLAY()`: five writes in this order, always (R208). -/
def replay : List Action :=
  [ memWrite regAecAgcEnable (fun s => withAgc s.shadowAa s.ctlAg),
    memWrite regAnalogGain (fun s => s.ctlGain.setWidth 16),
    memWrite regAecAgcEnable (fun s => withAec s.shadowAa s.ctlAe),
    memWrite regTotalShutterWidth (fun s => s.ctlExp),
    memWrite regTestPattern (fun s => testPatternValue s.ctlTp) ]

/-! ### The commands -/

/-- The shape every control command has (R200): an operand outside its range is rejected before anything else, then
`value` is written through to `register` while powered, then the cache takes the new value. -/
def controlScript (legal : State → Bool) (register : Byte) (value : State → Word) (cache : State → State) :
    List Action :=
  [ prologue,
    raiseIf (fun s => !legal s) .invalidArgument,
    onlyIf State.powered (memWrite register value),
    update cache,
    completeOk ]

/-- A[0] is in 0..1 (R201). -/
def legalSwitch (s : State) : Bool := decide (s.a0.toNat ≤ 1)

/-- A[0] is in 16..64 (R201). -/
def legalGain (s : State) : Bool := decide (gainMin ≤ s.a0.toNat ∧ s.a0.toNat ≤ gainMax)

/-- A[0] is in EXP_MIN..EXP_MAX (R201). -/
def legalExposure (s : State) : Bool :=
  decide (expMin s.params.variant ≤ s.a0.toNat ∧ s.a0.toNat ≤ expMax s.params.variant)

/-- A[0] is in 0..1023 (R201). -/
def legalPattern (s : State) : Bool := decide (s.a0.toNat ≤ patternMax)

/-- The script of SET_AUTO_GAIN (R202). -/
def setAutoGainScript : List Action :=
  controlScript legalSwitch regAecAgcEnable (fun s => withAgc s.shadowAa (gainSwitch s.a0))
    (fun s => { s with ctlAg := gainSwitch s.a0 })

/-- SET_AUTO_GAIN (R202). -/
def execSetAutoGain (s : State) : Result := runCommand setAutoGainScript s

/-- The script of SET_ANALOG_GAIN (R203). -/
def setAnalogGainScript : List Action :=
  controlScript legalGain regAnalogGain (fun s => s.a0) (fun s => { s with ctlGain := s.a0.setWidth 8 })

/-- SET_ANALOG_GAIN (R203). -/
def execSetAnalogGain (s : State) : Result := runCommand setAnalogGainScript s

/-- The script of SET_AUTO_EXPOSURE (R204). -/
def setAutoExposureScript : List Action :=
  controlScript legalSwitch regAecAgcEnable (fun s => withAec s.shadowAa (exposureMode s.a0))
    (fun s => { s with ctlAe := exposureMode s.a0 })

/-- SET_AUTO_EXPOSURE (R204). -/
def execSetAutoExposure (s : State) : Result := runCommand setAutoExposureScript s

/-- The script of SET_EXPOSURE (R205). -/
def setExposureScript : List Action :=
  controlScript legalExposure regTotalShutterWidth (fun s => s.a0) (fun s => { s with ctlExp := s.a0 })

/-- SET_EXPOSURE (R205). -/
def execSetExposure (s : State) : Result := runCommand setExposureScript s

/-- The script of SET_TEST_PATTERN (R206). -/
def setTestPatternScript : List Action :=
  controlScript legalPattern regTestPattern (fun s => testPatternValue s.a0) (fun s => { s with ctlTp := s.a0 })

/-- SET_TEST_PATTERN (R206). -/
def execSetTestPattern (s : State) : Result := runCommand setTestPatternScript s

end Sys2Proof.Machine
end

