-- ==== Sys2Proof/Machine/Geometry.lean ====
section
/-! DEFINITION. Geometry: the exact integer arithmetic of R13 and R170, and the commands SET_CROP, GET_CROP, SET_FORMAT
and GET_FORMAT (41_geometry.md). None of their scripts holds a bus action (R175). -/

namespace Sys2Proof.Machine

/-! ### Arithmetic (R13) -/

/-- `x & ~1` on a non-negative integer. -/
def clearBit0 (x : Int) : Int := 2 * (x / 2)

/-- `align_odd(x) = ((x + 1) & ~1) - 1` for x ≥ 0 (R13, 90_conflicts.md C1). -/
def alignOdd (x : Int) : Int := clearBit0 (x + 1) - 1

/-- `align_even(x) = x & ~1` for x ≥ 0 (R13, 90_conflicts.md C2). -/
def alignEven (x : Int) : Int := clearBit0 x

/-- `clamp(x, lo, hi) = min(max(x, lo), hi)` (R13). -/
def clamp (x lo hi : Int) : Int := min (max x lo) hi

/-- `round_half_away(a, b) = (2·a + b) div (2·b)` for a ≥ 0, b > 0 (R13). -/
def roundHalfAway (a b : Int) : Int := (2 * a + b) / (2 * b)

/-- `RATIO(c, f) = min(8, round_half_away(c, f))` (R170). Outside 1 ≤ f ≤ c, which no run reaches, it has the value Lean's
total division gives (DEDUCED, unsafe there, assumption 10). -/
def ratio (c f : Int) : Int := min ratioMax (roundHalfAway c f)

/-! ### SET_CROP and GET_CROP -/

/-- The left edge SET_CROP installs for a requested one (R171). -/
def cropLeft (left : Word) : Int := clamp (alignOdd (widen left)) leftMin leftMax

/-- The top edge SET_CROP installs for a requested one (R171). -/
def cropTop (top : Word) : Int := clamp (alignOdd (widen top)) topMin topMax

/-- The extent SET_CROP installs for a requested one at origin `origin`, on an axis of `array` pixels whose largest
extent is `most` (R171). -/
def cropExtent (extent : Word) (origin array most : Int) : Int :=
  min (clamp (alignEven (widen extent)) extentMin most) (alignEven (array - origin))

/-- The rectangle SET_CROP installs for a request (R171). -/
def cropFor (left top width height : Word) : Crop :=
  { left := narrow (cropLeft left)
    top := narrow (cropTop top)
    width := narrow (cropExtent width (cropLeft left) arrayColumns widthMax)
    height := narrow (cropExtent height (cropTop top) arrayRows heightMax) }

/-- SET_CROP's change of its target: a new size resets the format to it, and the crop is installed (R171). -/
def State.installCrop (s : State) (w : Target) (c : Crop) : State :=
  let old := s.crop w
  let s' := if (c.width, c.height) ≠ (old.width, old.height) then s.withFmt w ⟨c.width, c.height⟩ else s
  s'.withCrop w c

/-- RES0..RES3 <- a crop (R171, R172). -/
def State.resCrop (s : State) (c : Crop) : State :=
  { s with res := { r0 := c.left, r1 := c.top, r2 := c.width, r3 := c.height } }

/-- The script of SET_CROP (R171). -/
def setCropScript (w : Target) : List Action :=
  [ prologue,
    update (fun s => s.installCrop w (cropFor s.a0 s.a1 s.a2 s.a3)),
    completeWith (fun s => s.resCrop (s.crop w)) ]

/-- SET_CROP (R171). -/
def execSetCrop (w : Target) (s : State) : Result := runCommand (setCropScript w) s

/-- The script of GET_CROP (R172). -/
def getCropScript (w : Target) : List Action :=
  [prologue, completeWith (fun s => s.resCrop (s.crop w))]

/-- GET_CROP (R172). -/
def execGetCrop (w : Target) (s : State) : Result := runCommand (getCropScript w) s

/-! ### SET_FORMAT and GET_FORMAT -/

/-- The requested extent SET_FORMAT works with, for a crop extent `c` (R173). -/
def formatRequest (request : Word) (c : Int) : Int :=
  clamp (alignEven (widen request)) (max (c / ratioMax) 1) c

/-- The extent SET_FORMAT installs: the crop extent divided by the binning ratio (R173). -/
def formatExtent (request : Word) (c : Int) : Int := c / ratio c (formatRequest request c)

/-- The format SET_FORMAT installs for a request, given the target's crop (R173). -/
def formatFor (width height : Word) (c : Crop) : Format :=
  { width := narrow (formatExtent width (widen c.width)), height := narrow (formatExtent height (widen c.height)) }

/-- RES0..RES3 <- a format with its constant fields (R51, R173, R174). -/
def State.resFmt (s : State) (f : Format) : State :=
  { s with res := { r0 := f.width, r1 := f.height, r2 := fmtCode, r3 := fieldCode ||| (csCode <<< 8) } }

/-- The script of SET_FORMAT (R173). -/
def setFormatScript (w : Target) : List Action :=
  [ prologue,
    update (fun s => s.withFmt w (formatFor s.a0 s.a1 (s.crop w))),
    completeWith (fun s => s.resFmt (s.fmt w)) ]

/-- SET_FORMAT (R173). -/
def execSetFormat (w : Target) (s : State) : Result := runCommand (setFormatScript w) s

/-- The script of GET_FORMAT (R174). -/
def getFormatScript (w : Target) : List Action :=
  [prologue, completeWith (fun s => s.resFmt (s.fmt w))]

/-- GET_FORMAT (R174). -/
def execGetFormat (w : Target) (s : State) : Result := runCommand (getFormatScript w) s

end Sys2Proof.Machine
end

