-- ==== Sys2Proof/Machine/Lifecycle.lean ====
section
/-! DEFINITION. The clock-gating sequencer (40_lifecycle.md): physical power-on and power-off (R141, R142), and the
commands POWER_UP, POWER_DOWN and TEARDOWN. -/

namespace Sys2Proof.Machine

/-- POWER_COUNT <- v. -/
def State.withCount (s : State) (v : Word) : State := { s with powerCount := v }

/-- `PHYS_ON()` (R141). The value read is tested in CHIPVER, which has just taken it (DEDUCED, safe, assumption 9). -/
def physOn : List Action :=
  [ clockEnable,
    delay,
    memRead regChipVersion (fun v s => { s with chipVer := v }),
    skipIf (fun s => chipAccepted s.chipVer) 3,
    clockDisable,
    update (fun s => { s with absent := true }),
    raiseIf (fun _ => true) .notPresent,
    memWrite regReset (fun _ => 0x0001),
    memWrite regReset (fun _ => 0x0000),
    memWriteThen (fun _ => regChipControl) (fun _ => 0x0000) (fun s => { s with stream := false }),
    onlyIf (fun s => s.params.pclkInv)
      (memWriteThen (fun s => pixelClockAddr s.params.variant) (fun s => 1#16 <<< s.params.pclkInvBit.val)
        (fun s => s)),
    memWrite regRowNoiseCorrControl (fun _ => 0x0000) ] ++ replay

/-- `PHYS_OFF()` (R142): the clock is gated and nothing else is touched. -/
def physOff : List Action := [clockDisable]

/-- The power-on branch from count 0, which POWER_UP and OPEN share (R143, R250). -/
def coldBranch : List Action :=
  [raiseIf (fun s => s.absent) .notPresent] ++ physOn ++ [update (fun s => s.withCount 1), completeOk]

/-- The script of POWER_UP (R143). -/
def powerUpScript : List Action :=
  [prologue, skipIf State.powered coldBranch.length] ++ coldBranch ++
  [ raiseIf (fun s => s.powerCount == pwrCntMax) .precondition,
    update (fun s => s.withCount (s.powerCount + 1)),
    completeOk ]

/-- POWER_UP (R143). -/
def execPowerUp (s : State) : Result := runCommand powerUpScript s

/-- The pseudocode that POWER_DOWN and CLOSE share (R144, R251). -/
def releaseScript : List Action :=
  [ prologue,
    raiseIf (fun s => !s.powered) .precondition,
    skipIf (fun s => s.powerCount != 1) physOff.length ] ++ physOff ++
  [ update (fun s => s.withCount (s.powerCount - 1)),
    completeOk ]

/-- The script of POWER_DOWN (R144). -/
def powerDownScript : List Action := releaseScript

/-- POWER_DOWN (R144). -/
def execPowerDown (s : State) : Result := runCommand powerDownScript s

/-- The script of TEARDOWN (R146). -/
def teardownScript : List Action :=
  [ prologue,
    raiseIf State.powered .precondition,
    clockDisable,
    update (fun s => { s with detached := true }),
    completeOk ]

/-- TEARDOWN (R146). -/
def execTeardown (s : State) : Result := runCommand teardownScript s

end Sys2Proof.Machine
end

