-- ==== Sys2Proof/Machine/Facade.lean ====
section
/-! DEFINITION. The façade commands (44_facade.md): OPEN, CLOSE, the two enumerations and the advisory frame interval. -/

namespace Sys2Proof.Machine

/-- TRY_CROP and TRY_FMT <- their defaults (R250). -/
def State.freshTry (s : State) : State := { s with tryCrop := defaultCrop, tryFmt := defaultFormat }

/-- The script of OPEN (R250): the maximum count is checked before the try-state is touched (90_conflicts.md C10). -/
def openScript : List Action :=
  [ prologue,
    raiseIf (fun s => s.powerCount == pwrCntMax) .precondition,
    update State.freshTry,
    skipIf State.powered coldBranch.length ] ++ coldBranch ++
  [ update (fun s => s.withCount (s.powerCount + 1)),
    completeOk ]

/-- OPEN (R250). -/
def execOpen (s : State) : Result := runCommand openScript s

/-- The script of CLOSE, the pseudocode of POWER_DOWN (R251). -/
def closeScript : List Action := releaseScript

/-- CLOSE (R251). -/
def execClose (s : State) : Result := runCommand closeScript s

/-- The script of ENUM_CODE (R252). -/
def enumCodeScript : List Action :=
  [ prologue,
    raiseIf (fun s => s.a0 != 0) .invalidArgument,
    completeWith (fun s => { s with res := { s.res with r0 := fmtCode } }) ]

/-- ENUM_CODE (R252). -/
def execEnumCode (s : State) : Result := runCommand enumCodeScript s

/-- `RES0 <- a ; RES1 <- b`, leaving RES2 and RES3 (R45). -/
def State.resPair (s : State) (a b : Word) : State := { s with res := { s.res with r0 := a, r1 := b } }

/-- The script of ENUM_SIZE: 752 div i by 480 div i for i in 1..8 (R253). -/
def enumSizeScript : List Action :=
  [ prologue,
    raiseIf (fun s => decide (s.a0.toNat < sizeIndexMin ∨ sizeIndexMax < s.a0.toNat)) .invalidArgument,
    completeWith (fun s => s.resPair (defaultWidth / s.a0) (defaultHeight / s.a0)) ]

/-- ENUM_SIZE (R253). -/
def execEnumSize (s : State) : Result := runCommand enumSizeScript s

/-- A[0]/A[1] is 1/d with d in 4..60 (R254). -/
def State.intervalLegal (s : State) : Bool :=
  decide (s.a0 = 1 ∧ intervalDenMin ≤ s.a1.toNat ∧ s.a1.toNat ≤ intervalDenMax)

/-- The script of SET_FRAME_INTERVAL (R254). -/
def setFrameIntervalScript : List Action :=
  [ prologue,
    raiseIf (fun s => !s.intervalLegal) .invalidArgument,
    update (fun s => { s with fiDen := s.a1.setWidth 8 }),
    completeWith (fun s => s.resPair 1 s.a1) ]

/-- SET_FRAME_INTERVAL (R254). -/
def execSetFrameInterval (s : State) : Result := runCommand setFrameIntervalScript s

/-- The script of GET_FRAME_INTERVAL (R255). -/
def getFrameIntervalScript : List Action :=
  [prologue, completeWith (fun s => s.resPair 1 (s.fiDen.setWidth 16))]

/-- GET_FRAME_INTERVAL (R255). -/
def execGetFrameInterval (s : State) : Result := runCommand getFrameIntervalScript s

end Sys2Proof.Machine
end

