-- ==== Sys2Proof/Machine/Streaming.lean ====
section
/-! DEFINITION. The window-write atomizer (43_streaming.md): the READ_MODE value (R231) and the commands STREAM_ON and
STREAM_OFF. -/

namespace Sys2Proof.Machine

/-- `hr`, the horizontal ratio of the active crop and format (R231). -/
def State.hratio (s : State) : Int := ratio (widen s.actCrop.width) (widen s.actFmt.width)

/-- `vr`, the vertical ratio of the active crop and format (R231). -/
def State.vratio (s : State) : Int := ratio (widen s.actCrop.height) (widen s.actFmt.height)

/-- RM: row-bin in bits 1:0 from the vertical ratio, column-bin in bits 3:2 from the horizontal one (R231). -/
def readModeOf (hr vr : Int) : Word := (narrow (vr - 1) &&& 3) ||| ((narrow (hr - 1) &&& 3) <<< 2)

/-- The HORIZONTAL_BLANKING value, computed in ℤ (R232). -/
def State.hblank (s : State) : Word :=
  narrow (max (hblankMin s.params.variant) (hblankBase - widen s.actCrop.width))

/-- A ratio above 4 that `P_BIN_POLICY` does not let through (R232). -/
def State.binningRejected (s : State) : Bool :=
  decide (fieldRatioMax < s.hratio ∨ fieldRatioMax < s.vratio) && (s.params.binPolicy == .reject)

/-- The six window and binning writes, in their order (R232, R235). -/
def windowWrites : List Action :=
  [ memWrite regReadMode (fun s => readModeOf s.hratio s.vratio),
    memWrite regColumnStart (fun s => s.actCrop.left),
    memWrite regRowStart (fun s => s.actCrop.top),
    memWrite regWindowWidth (fun s => s.actCrop.width),
    memWrite regWindowHeight (fun s => s.actCrop.height),
    memWrite regHorizontalBlanking (fun s => s.hblank) ]

/-- The script of STREAM_ON (R232). -/
def streamOnScript : List Action :=
  [ prologue,
    raiseIf (fun s => !s.powered) .precondition,
    completeIf (fun s => s.stream),
    raiseIf State.binningRejected .precondition ] ++ windowWrites ++
  [ memWriteThen (fun _ => regChipControl) (fun s => s.shadowCc ||| streamBits) (fun s => { s with stream := true }),
    completeOk ]

/-- STREAM_ON (R232). -/
def execStreamOn (s : State) : Result := runCommand streamOnScript s

/-- The script of STREAM_OFF (R233). -/
def streamOffScript : List Action :=
  [ prologue,
    completeIf (fun s => !s.stream),
    raiseIf (fun s => !s.powered) .precondition,
    memWriteThen (fun _ => regChipControl) (fun s => s.shadowCc &&& ~~~streamBits)
      (fun s => { s with stream := false }),
    completeOk ]

/-- STREAM_OFF (R233). -/
def execStreamOff (s : State) : Result := runCommand streamOffScript s

end Sys2Proof.Machine
end

