-- ==== Sys2Proof/Machine/Dispatch.lean ====
section
/-! DEFINITION. One arm per command (R114): exec performs the command from the sequencer's next action. -/

namespace Sys2Proof.Machine

def exec (i : Instr) (s : State) : Host.Outcome State Fault Refusal :=
  match i with
  | .powerUp => Sys2Proof.Machine.execPowerUp s
  | .powerDown => Sys2Proof.Machine.execPowerDown s
  | .teardown => Sys2Proof.Machine.execTeardown s
  | .setCrop w => Sys2Proof.Machine.execSetCrop w s
  | .getCrop w => Sys2Proof.Machine.execGetCrop w s
  | .setFormat w => Sys2Proof.Machine.execSetFormat w s
  | .getFormat w => Sys2Proof.Machine.execGetFormat w s
  | .setAutoGain => Sys2Proof.Machine.execSetAutoGain s
  | .setAnalogGain => Sys2Proof.Machine.execSetAnalogGain s
  | .setAutoExposure => Sys2Proof.Machine.execSetAutoExposure s
  | .setExposure => Sys2Proof.Machine.execSetExposure s
  | .setTestPattern => Sys2Proof.Machine.execSetTestPattern s
  | .streamOn => Sys2Proof.Machine.execStreamOn s
  | .streamOff => Sys2Proof.Machine.execStreamOff s
  | .openSession => Sys2Proof.Machine.execOpen s
  | .closeSession => Sys2Proof.Machine.execClose s
  | .enumCode => Sys2Proof.Machine.execEnumCode s
  | .enumSize => Sys2Proof.Machine.execEnumSize s
  | .setFrameInterval => Sys2Proof.Machine.execSetFrameInterval s
  | .getFrameInterval => Sys2Proof.Machine.execGetFrameInterval s

end Sys2Proof.Machine
end

