-- ==== Sys2Proof/Machine/Sequencer.lean ====
section
/-! DEFINITION. The sequencer and its surroundings: fetching the accepted command word (R72, R113), running it for one
turn or for one action (R31), and what each input of R8's agents does. -/

namespace Sys2Proof.Machine

/-- Each command's script, the pseudocode that SEQ.step indexes (R31). -/
def scriptOf : Instr → List Action
  | .powerUp => powerUpScript
  | .powerDown => powerDownScript
  | .teardown => teardownScript
  | .setCrop w => setCropScript w
  | .getCrop w => getCropScript w
  | .setFormat w => setFormatScript w
  | .getFormat w => getFormatScript w
  | .setAutoGain => setAutoGainScript
  | .setAnalogGain => setAnalogGainScript
  | .setAutoExposure => setAutoExposureScript
  | .setExposure => setExposureScript
  | .setTestPattern => setTestPatternScript
  | .streamOn => streamOnScript
  | .streamOff => streamOffScript
  | .openSession => openScript
  | .closeSession => closeScript
  | .enumCode => enumCodeScript
  | .enumSize => enumSizeScript
  | .setFrameInterval => setFrameIntervalScript
  | .getFrameInterval => getFrameIntervalScript

/-- A command runs: SEQ holds one (R31). -/
def State.running (s : State) : Bool := s.seq.isSome

/-- The sequencer runs the accepted word. A word that decodes to ILLEGAL completes at once (R113, R275); a command
goes on from its next action until it ends or waits for the bus. -/
def sequencerTurn (s : State) : Result :=
  if s.running then
    match decode s.cmd with
    | .illegal _ => .next (s.raise .illegalCommand)
    | .command i => exec i s
  else .next s

/-- The sequencer performs only the next action of the accepted word (R31). -/
def sequencerAction (s : State) : State :=
  if s.running then
    match decode s.cmd with
    | .illegal _ => s.raise .illegalCommand
    | .command i => runAction (scriptOf i) s
  else s

/-- A bus response arrives. The sequencer goes on with the transaction in flight; a response to no transaction, such
as one that reset abandoned, is ignored (R300; DEDUCED, safe, assumption 8). -/
def busResponse (s : State) (rest : List Input) : Result :=
  if s.running && s.bus.isSome then sequencerTurn s else .next { s with inputs := rest }

/-- One step: the next input happens. With no input pending the sequencer goes on by itself; when it is idle or waits
for a bus response, nothing happens (R84, R290). Taking what the agents do from `inputs`, and letting no time pass, are
DESIGN CHOICES (safe, assumptions 3 and 17). -/
def nextStep (s : State) : Result :=
  match s.inputs with
  | [] => sequencerTurn s
  | .access a :: rest => .next ({ s with inputs := rest }.hostAccess a)
  | .turn :: rest => sequencerTurn { s with inputs := rest }
  | .action :: rest => .next (sequencerAction { s with inputs := rest })
  | .reply _ :: rest => busResponse s rest
  | .rstHigh resOk :: rest => .next ({ s with inputs := rest }.assertRst resOk)
  | .rstLow :: rest => .next { s with inputs := rest }.releaseRst

/-- A command word is placed in CMD as acceptance leaves it (R72), in a controller that runs nothing and is out of
reset, with the sequencer's turn as the next thing to happen. -/
def State.present (s : State) (w : Word32) : State :=
  let turn := match s.inputs with
    | [] => []
    | pending => .turn :: pending
  { s with bus := none, rst := false, inputs := turn }.accept w

end Sys2Proof.Machine
end

