-- ==== Sys2Proof/Machine/Assembler.lean ====
section
/-! DEFINITION. The assembler of R118 and R119: what an assembly line and a pseudo-instruction stand for on the host
register port. -/

namespace Sys2Proof.Machine

/-- The offset of ARGk (R73). -/
def argOffset : Nat → Byte
  | 0 => offArg0
  | 1 => offArg1
  | 2 => offArg2
  | _ => offArg3

/-- The ARG writes of a line, for the operands its command reads; a missing operand is written as 0 (R118). -/
def argWrites (l : AsmLine) : List Access :=
  (List.range l.instr.operandCount).map
    (fun k => .write (argOffset k) (BitVec.ofNat 32 (l.operands.getD k 0)))

/-- The host register sequence of a line up to its CMD write (R118). -/
def lineWrites (l : AsmLine) : List Access := argWrites l ++ [.write offCmd (encode l.instr)]

/-- One round of the WAIT loop: STATUS is read, and the loop goes on while bit 0 is 1 (R118). -/
def waitRead : Access := .read offStatus

/-- The WAIT loop ends on this STATUS word (R118). -/
def waitOver (status : Word32) : Bool := !status.getLsbD 0

/-- The controls SET_CTRL names (R119). -/
inductive ControlName where
  | autogain
  | gain
  | exposureAuto
  | exposure
  | testPattern
deriving DecidableEq, Repr

/-- `SET_POWER on` (R119). -/
def setPower (on : Nat) : AsmLine := { instr := if on ≠ 0 then .powerUp else .powerDown, operands := [] }

/-- `SET_STREAM on` (R119). -/
def setStream (on : Nat) : AsmLine := { instr := if on ≠ 0 then .streamOn else .streamOff, operands := [] }

/-- `SET_CTRL name, v` (R119). -/
def setCtrl (name : ControlName) (v : Nat) : AsmLine :=
  { instr := match name with
      | .autogain => .setAutoGain
      | .gain => .setAnalogGain
      | .exposureAuto => .setAutoExposure
      | .exposure => .setExposure
      | .testPattern => .setTestPattern
    operands := [v] }

/-- `CHECK code`: bits 11:8 of the STATUS word read are `code` (R119). -/
def checkStatus (status : Word32) (code : BitVec 4) : Bool := status.extractLsb' 8 4 == code

end Sys2Proof.Machine
end

