-- ==== Sys2Proof/Machine/Wire.lean ====
section
/-! DEFINITION. The two-wire framing of a transaction (R83 to R86). The order of the data bytes is the source's; the
rest of the framing is PRESUMED, the spec's general knowledge (its item G3, unsafe, assumption 11), and nothing else of
the model rests on it. -/

namespace Sys2Proof.Machine

/-- One item on the two-wire bus. -/
inductive WireItem where
  | start
  | repeatedStart
  /-- A byte the controller sends. -/
  | sent (b : Byte)
  /-- A byte the sensor sends, and whether the master acknowledges it. -/
  | received (b : Byte) (masterAck : Bool)
  | stop
deriving DecidableEq, Repr

/-- The address byte: (P_DEV_ADDR << 1) | direction (R86). -/
def addressByte (device : BitVec 7) (readBit : Bool) : Byte :=
  (device.setWidth 8 <<< 1) ||| (if readBit then 1 else 0)

/-- v[15:8] (R84, R85). -/
def highByte (v : Word) : Byte := v.extractLsb' 8 8

/-- v[7:0] (R84, R85). -/
def lowByte (v : Word) : Byte := v.extractLsb' 0 8

/-- The register value of two data bytes in wire order: the first is d[15:8] (R84). -/
def wordOfWire (first second : Byte) : Word := (first.setWidth 16 <<< 8) ||| second.setWidth 16

/-- A transaction on the wire; `d` is the word the sensor answers a read with (R86). -/
def Transaction.wire (t : Transaction) (d : Word) : List WireItem :=
  match t.transfer with
  | .write v =>
    [.start, .sent (addressByte t.device false), .sent t.register, .sent (highByte v), .sent (lowByte v), .stop]
  | .read =>
    [ .start, .sent (addressByte t.device false), .sent t.register,
      .repeatedStart, .sent (addressByte t.device true),
      .received (highByte d) true, .received (lowByte d) false, .stop ]

end Sys2Proof.Machine
end

