-- ==== Sys2Proof/Machine/SensorView.lean ====
section
/-! DEFINITION. What the record of outputs says about the sensor. The sensor's registers are no state of the controller
(R78); the one thing the spec says of them is that a write without an acknowledge leaves the old value or the
written one (R87, R278, R300, R315), so this file picks such writes out of the record (DEDUCED, safe, assumptions 12
and 16). -/

namespace Sys2Proof.Machine

/-- The register and the value of a transaction, if it is a write. -/
def Transaction.written (t : Transaction) : Option (Byte × Word) :=
  match t.transfer with
  | .read => none
  | .write v => some (t.register, v)

/-- The writes in a record that were answered with an error or cut off by reset; `pending` is the write in flight when
the record begins. -/
def doubtfulFrom (pending : Option (Byte × Word)) : List Event → List (Byte × Word)
  | [] => []
  | .bus t :: es => doubtfulFrom t.written es
  | .answer .error :: es => pending.toList ++ doubtfulFrom none es
  | .answer (.ack _) :: es => doubtfulFrom none es
  | .rst :: es => pending.toList ++ doubtfulFrom none es
  | .clkOn :: es => doubtfulFrom pending es
  | .clkOff :: es => doubtfulFrom pending es
  | .delay _ :: es => doubtfulFrom pending es
  | .hostRead _ _ :: es => doubtfulFrom pending es

/-- The doubtful writes of a whole record, oldest first. -/
def doubtfulWrites (log : List Event) : List (Byte × Word) := doubtfulFrom none log

/-- What a sensor register may hold right after a doubtful write of `written`: its old value or the new one (R278). -/
def mayHoldAfterDoubt (old written : Word) : List Word := [old, written]

/-- The transaction that a record leaves without an answer, `pending` being the one in flight when it begins. -/
def unansweredAfter (pending : Option Transaction) : List Event → Option Transaction
  | [] => pending
  | .bus t :: es => unansweredAfter (some t) es
  | .answer _ :: es => unansweredAfter none es
  | .rst :: es => unansweredAfter none es
  | .clkOn :: es => unansweredAfter pending es
  | .clkOff :: es => unansweredAfter pending es
  | .delay _ :: es => unansweredAfter pending es
  | .hostRead _ _ :: es => unansweredAfter pending es

/-- `value`, or what an acknowledged transaction wrote to register `r` (R92). -/
def ackedValue (r : Byte) (value : Word) (pending : Option Transaction) : Word :=
  match pending with
  | none => value
  | some t =>
    match t.transfer with
    | .read => value
    | .write v => if t.register = r then v else value

/-- The value that the last acknowledged write of a record to register `r` wrote, `value` before the first one; reset
takes it back to `atReset` (R57, R92). -/
def lastAcked (r : Byte) (atReset value : Word) (pending : Option Transaction) : List Event → Word
  | [] => value
  | .bus t :: es => lastAcked r atReset value (some t) es
  | .answer (.ack _) :: es => lastAcked r atReset (ackedValue r value pending) none es
  | .answer .error :: es => lastAcked r atReset value none es
  | .rst :: es => lastAcked r atReset atReset none es
  | .clkOn :: es => lastAcked r atReset value pending es
  | .clkOff :: es => lastAcked r atReset value pending es
  | .delay _ :: es => lastAcked r atReset value pending es
  | .hostRead _ _ :: es => lastAcked r atReset value pending es

end Sys2Proof.Machine
end

