-- ==== Sys2Proof/Safety.lean ====
section
/-! DEFINITION. The terms in which claims about the controller are made: when a command starts, the bus traffic the
rules give it, and the invariants of R52 to R55, R43 and R89. -/

namespace Sys2Proof.Machine

/-! ### Starting a command -/

/-- The sequencer is at a command's first action and no transaction is in flight. -/
abbrev State.Ready (s : State) : Prop := s.seqStep = 0 ∧ s.bus = none

/-- Neither FAILED nor DETACHED: the resource check of R140 passes. -/
abbrev State.Live (s : State) : Prop := s.failed = false ∧ s.detached = false

/-- `Ready` and `Live`. -/
abbrev State.Starts (s : State) : Prop := s.Ready ∧ s.Live

/-- No command runs, nothing is in flight and `rst` is deasserted. -/
abbrev State.Quiet (s : State) : Prop := s.seq = none ∧ s.busy = false ∧ s.bus = none ∧ s.rst = false

/-- Acknowledges of the bus as pending inputs. -/
def acks (ds : List Word) : List Input := ds.map (fun d => .reply (.ack d))

/-! ### Bus traffic -/

/-- The transaction of a write. -/
def writeTo (s : State) (r : Byte) (v : Word) : Transaction :=
  { device := s.params.devAddr, register := r, transfer := .write v }

/-- The transaction of a read. -/
def readOf (s : State) (r : Byte) : Transaction :=
  { device := s.params.devAddr, register := r, transfer := .read }

/-- The record of a list of writes, the k-th acknowledged with the k-th data word. -/
def writesAcked (s : State) (ws : List (Byte × Word)) (ds : List Word) : List Event :=
  (ws.zip ds).flatMap (fun p => [.bus (writeTo s p.1.1 p.1.2), .answer (.ack p.2)])

/-- The value of REPLAY's first write to 0xAF: SHADOW_AA with bit 1 replaced by CTL_AG (R208). -/
def replayedAgc (s : State) : Word := (s.shadowAa &&& 0xFFFD) ||| (if s.ctlAg then 0x0002 else 0x0000)

/-- The value of REPLAY's second write to 0xAF: the first one's with bit 0 replaced by the inverse of CTL_AE (R208). -/
def replayedAa (s : State) : Word :=
  (replayedAgc s &&& 0xFFFE) |||
    (match s.ctlAe with
      | .auto => 0x0001
      | .manual => 0x0000)

/-- The writes of REPLAY, the addresses written out from R208. -/
def replayWrites (s : State) : List (Byte × Word) :=
  [(0xAF, replayedAgc s), (0x35, s.ctlGain.setWidth 16), (0xAF, replayedAa s), (0x0B, s.ctlExp),
   (0x7F, testPatternValue s.ctlTp)]

/-- The PIXEL_CLOCK write of PHYS_ON (R141), at 0x74 for MT9V032 and 0x72 for MT9V034 (R10). -/
def pixelClockWrite (s : State) : Byte × Word :=
  (match s.params.variant with
    | .mt9v032 => 0x74
    | .mt9v034 => 0x72, BitVec.ofNat 16 (2 ^ s.params.pclkInvBit.val))

/-- The writes of PHYS_ON after an accepted identification, the addresses written out from R141. -/
def physOnWrites (s : State) : List (Byte × Word) :=
  [(0x0C, 0x0001), (0x0C, 0x0000), (0x07, 0x0000)] ++ (if s.params.pclkInv then [pixelClockWrite s] else [])
    ++ [(0x70, 0x0000)] ++ replayWrites s

/-- The record of PHYS_ON up to the answer `v` of the identification read at 0x00 (R141). -/
def identification (s : State) (v : Word) : List Event :=
  [.clkOn, .delay s.params.tStabNs, .bus (readOf s 0x00), .answer (.ack v)]

/-- What a completed PHYS_ON leaves, the chip version read being `v` (R141), but for the record and the inputs. -/
def State.poweredOn (s : State) (v : Word) : State :=
  { s with clkEn := true, chipVer := v, shadowCc := 0, stream := false, shadowAa := replayedAa s }

/-- The seven writes of STREAM_ON, the addresses written out from R232. -/
def streamOnWrites (s : State) : List (Byte × Word) :=
  [ (0x0D, readModeOf s.hratio s.vratio), (0x01, s.actCrop.left), (0x02, s.actCrop.top), (0x04, s.actCrop.width),
    (0x03, s.actCrop.height), (0x05, s.hblank), (0x07, s.shadowCc ||| 0x0188) ]

/-! ### Geometry invariants (R52, R53) -/

/-- The bounds and parities of a crop (R52). -/
abbrev Crop.Legal (c : Crop) : Prop :=
  (c.left.toNat % 2 = 1 ∧ 1 ≤ c.left.toNat ∧ c.left.toNat ≤ 751) ∧
  (c.top.toNat % 2 = 1 ∧ 5 ≤ c.top.toNat ∧ c.top.toNat ≤ 481) ∧
  (c.width.toNat % 2 = 0 ∧ 2 ≤ c.width.toNat ∧ c.width.toNat ≤ 752) ∧
  (c.height.toNat % 2 = 0 ∧ 2 ≤ c.height.toNat ∧ c.height.toNat ≤ 480) ∧
  c.left.toNat + c.width.toNat ≤ 781 ∧ c.top.toNat + c.height.toNat ≤ 491

/-- A format is its crop divided by ratios in 1..8 (R53). -/
abbrev Format.Fits (f : Format) (c : Crop) : Prop :=
  (∃ r : Fin 8, f.width.toNat = c.width.toNat / (r.val + 1)) ∧
  (∃ r : Fin 8, f.height.toNat = c.height.toNat / (r.val + 1))

/-- R52 and R53 for both targets. -/
abbrev State.GeometryInv (s : State) : Prop :=
  s.actCrop.Legal ∧ s.tryCrop.Legal ∧ s.actFmt.Fits s.actCrop ∧ s.tryFmt.Fits s.tryCrop

/-! ### Shadow invariant (R54) -/

/-- SHADOW_CC is 0x0188 when streaming and 0x0000 when idle (R54). -/
abbrev State.ShadowInv (s : State) : Prop := s.shadowCc = if s.stream then 0x0188 else 0x0000

/-! ### Control cache invariant (R43, R50) -/

/-- The cached controls and the frame interval are legal (R43, R50), and so is the range of `P_FI_RESET_DEN`, which
reset loads (R9). -/
abbrev State.CacheLegal (s : State) : Prop :=
  (16 ≤ s.ctlGain.toNat ∧ s.ctlGain.toNat ≤ 64) ∧
  (expMin s.params.variant ≤ s.ctlExp.toNat ∧ s.ctlExp.toNat ≤ expMax s.params.variant) ∧
  s.ctlTp.toNat ≤ 1023 ∧ (4 ≤ s.fiDen.toNat ∧ s.fiDen.toNat ≤ 60) ∧
  s.params.wellFormed = true

/-- A command past its range check has a legal operand latched (R200, R254). -/
def State.operandChecked (s : State) : Bool :=
  match s.seq, decode s.cmd with
  | some q, .command .setAnalogGain => decide (q.step < 2) || legalGain s
  | some q, .command .setExposure => decide (q.step < 2) || legalExposure s
  | some q, .command .setTestPattern => decide (q.step < 2) || legalPattern s
  | some q, .command .setFrameInterval => decide (q.step < 2) || s.intervalLegal
  | _, _ => true

/-- The cache is legal, and stays so because what is about to be cached has been checked. -/
abbrev State.CacheInv (s : State) : Prop := s.CacheLegal ∧ s.operandChecked = true

/-! ### Power and clock invariant (R55, R89) -/

/-- What must hold of POWER_COUNT and CLK_EN at a point of a command. -/
inductive PowerPhase where
  /-- R55: a positive count means an enabled clock. -/
  | balanced
  /-- The count is positive and the clock is enabled. -/
  | on
  /-- The count is 0. -/
  | cold
  /-- The count is 0 and PHYS_ON has enabled the clock. -/
  | clocked
  /-- The count is 1 and about to fall; PHYS_OFF is next. -/
  | last
  /-- The count is about to fall: it is 1, with the clock already off, or it is larger. -/
  | falling
deriving DecidableEq, Repr

/-- A phase as a condition on the state. -/
def State.inPhase (s : State) : PowerPhase → Bool
  | .balanced => !s.powered || s.clkEn
  | .on => s.powered && s.clkEn
  | .cold => !s.powered
  | .clocked => !s.powered && s.clkEn
  | .last => s.powerCount == 1
  | .falling => s.powered && ((s.powerCount == 1) || s.clkEn)

/-- The phase at the `j`-th action of the power-on branch from count 0 (R141, R143). -/
def coldPhase (j : Nat) : PowerPhase :=
  if j < 2 then .cold else if j < 6 then .clocked else if j < 8 then .cold else if j < 19 then .clocked else .balanced

/-- The phase at the `k`-th action of a command (R143, R144, R146, R232, R233, R250, R251). -/
def powerPhase : Instr → Nat → PowerPhase
  | .powerUp, k => if k < 2 then .balanced else if k < 22 then coldPhase (k - 2) else if k < 24 then .on else .balanced
  | .openSession, k =>
    if k < 4 then .balanced else if k < 24 then coldPhase (k - 4) else if k < 25 then .on else .balanced
  | .powerDown, k | .closeSession, k =>
    if k < 2 then .balanced else if k = 2 then .on else if k = 3 then .last else if k = 4 then .falling else .balanced
  | .teardown, k => if k < 2 then .balanced else .cold
  | .streamOn, k => if k < 2 then .balanced else .on
  | .streamOff, k => if k < 3 then .balanced else .on
  | .setCrop _, _ | .getCrop _, _ | .setFormat _, _ | .getFormat _, _ | .setAutoGain, _ | .setAnalogGain, _
  | .setAutoExposure, _ | .setExposure, _ | .setTestPattern, _ | .enumCode, _ | .enumSize, _
  | .setFrameInterval, _ | .getFrameInterval, _ => .balanced

/-- The phase a state must be in: that of the running command's next action, and R55 between commands. -/
def State.phase (s : State) : PowerPhase :=
  match s.seq, decode s.cmd with
  | some q, .command i => powerPhase i q.step
  | _, _ => .balanced

/-- Whether the clock is enabled after a record that begins with it disabled or enabled. -/
def clockAfter (on : Bool) : List Event → Bool
  | [] => on
  | .clkOn :: es => clockAfter true es
  | .clkOff :: es => clockAfter false es
  | .rst :: es => clockAfter false es
  | .delay _ :: es => clockAfter on es
  | .bus _ :: es => clockAfter on es
  | .answer _ :: es => clockAfter on es
  | .hostRead _ _ :: es => clockAfter on es

/-- Every transaction of a record is issued while the clock is enabled (R89). -/
def issuedClocked (on : Bool) : List Event → Bool
  | [] => true
  | .clkOn :: es => issuedClocked true es
  | .clkOff :: es => issuedClocked false es
  | .rst :: es => issuedClocked false es
  | .delay _ :: es => issuedClocked on es
  | .bus _ :: es => on && issuedClocked on es
  | .answer _ :: es => issuedClocked on es
  | .hostRead _ _ :: es => issuedClocked on es

/-- R55 with what each running command adds to it, and R89 for the whole record, which starts cold. -/
abbrev State.PowerInv (s : State) : Prop :=
  s.inPhase s.phase = true ∧ clockAfter false s.log = s.clkEn ∧ issuedClocked false s.log = true

/-! ### Sequencer invariant (R31, R46, R58, R72, R90, R300) -/

/-- The transaction that the sequencer's next action issues, if it is a bus action (R31, R90). -/
def State.nextTransaction (s : State) : Option Transaction :=
  match decode s.cmd with
  | .illegal _ => none
  | .command i => (runAction (scriptOf i) { s with bus := none, inputs := [] }).bus

/-- BUSY tells whether SEQ holds a command (R31, R46), whose opcode is CMD's (R72); a transaction in flight belongs to
a running command and is the one its next action issues (R58, R90); and nothing runs while `rst` is asserted
(R300). -/
abbrev State.SequencerInv (s : State) : Prop :=
  (s.busy = s.running) ∧ (s.running = true → s.seq.map Seq.opcode = some (opcodeField s.cmd)) ∧
  (s.bus = none ∨ (s.running = true ∧ s.bus = s.nextTransaction)) ∧ (s.rst = true → s.running = false)

/-! ### Shadows and the record (R92) -/

/-- The shadows are what the record of the bus says: SHADOW_CC and SHADOW_AA hold the value of the last acknowledged
write to 0x07 and to 0xAF since reset, or the reset value, and the record's last transaction without an answer is the
one in flight (R39, R40, R92). -/
abbrev State.MirrorInv (s : State) : Prop :=
  s.shadowCc = lastAcked 0x07 0x0000 0x0000 none s.log ∧
  s.shadowAa = lastAcked 0xAF 0x0003 0x0003 none s.log ∧
  s.bus = unansweredAfter none s.log

/-! ### Issuing commands one after another -/

/-- A quiet controller accepts command `i` with `pending` as the inputs to come, and runs it for one turn. -/
def issueCommand (i : Instr) (pending : List Input) (s : State) : State :=
  match exec i { s.accept (encode i) with inputs := pending } with
  | .next t => t
  | .fault _ => s
  | .refused _ => s

/-- A bus that answers the identification read with `version` and acknowledges the writes after it with `data` (R145);
PHYS_ON has at most ten (R319). -/
def healthyBus (version : Word) (data : List Word) : List Input := .reply (.ack version) :: acks data

/-- The four reference-counted commands (R145, R256), as steps up and down. -/
inductive PowerRequest where
  | powerUp
  | openSession
  | powerDown
  | closeSession
deriving DecidableEq, Repr

/-- The command of a request. -/
def PowerRequest.instr : PowerRequest → Instr
  | .powerUp => .powerUp
  | .openSession => .openSession
  | .powerDown => .powerDown
  | .closeSession => .closeSession

/-- A request that raises the count (R256). -/
def PowerRequest.raises : PowerRequest → Bool
  | .powerUp | .openSession => true
  | .powerDown | .closeSession => false

/-- A request and what a healthy bus will answer to it. -/
structure PowerIssue where
  request : PowerRequest
  version : Word
  data : List Word
deriving DecidableEq, Repr

/-- The bus answers the request with acknowledges, and the identification read with a version of R80's list. -/
abbrev PowerIssue.Healthy (p : PowerIssue) : Prop := p.version ∈ [0x1311, 0x1313, 0x1324] ∧ 10 ≤ p.data.length

/-- The requests issued one after another, each on its bus. -/
def issueAll (ps : List PowerIssue) (s : State) : State :=
  ps.foldl (fun s p => issueCommand p.request.instr (healthyBus p.version p.data) s) s

/-- How many requests of a list raise the count. -/
def ups (rs : List PowerRequest) : Nat := rs.countP PowerRequest.raises

/-- How many requests of a list lower the count. -/
def downs (rs : List PowerRequest) : Nat := rs.countP (fun r => !r.raises)

/-- No prefix has more downs than ups, and none exceeds `P_PWR_CNT_MAX` (R145). -/
def balancedRequests (rs : List PowerRequest) : Prop :=
  ∀ n, downs (rs.take n) ≤ ups (rs.take n) ∧ ups (rs.take n) - downs (rs.take n) ≤ pwrCntMax.toNat

end Sys2Proof.Machine
end

