-- ==== Sys2Proof/Certificates/Slice0/Obligations.lean ====
section
/-! DEFINITION. The statements for the provers, each with the rule of the spec it formalises. Where a next state is
written as an update of `s`, every field that the update does not name is unchanged: that is the statement's frame. -/

open Sys2Proof Sys2Proof.Machine

/-! ### Encoding -/

/-- R120: every word of the table decodes to its command, and is the command's encoding. The spec derives its word
table R120 from R110 and R114. -/
def Obligations.CommandWordsDecode : Prop :=
  ∀ p ∈ ([ (0x00000001, .powerUp), (0x00000002, .powerDown), (0x00000003, .teardown),
           (0x00000010, .setCrop .active), (0x00000110, .setCrop .attempt),
           (0x00000011, .getCrop .active), (0x00000111, .getCrop .attempt),
           (0x00000012, .setFormat .active), (0x00000112, .setFormat .attempt),
           (0x00000013, .getFormat .active), (0x00000113, .getFormat .attempt),
           (0x00000020, .setAutoGain), (0x00000021, .setAnalogGain), (0x00000022, .setAutoExposure),
           (0x00000023, .setExposure), (0x00000024, .setTestPattern), (0x00000030, .streamOn),
           (0x00000031, .streamOff), (0x00000040, .openSession), (0x00000041, .closeSession),
           (0x00000042, .enumCode), (0x00000043, .enumSize), (0x00000044, .setFrameInterval),
           (0x00000045, .getFrameInterval) ] : List (Word32 × Instr)),
    decode p.1 = .command p.2 ∧ encode p.2 = p.1

/-- R110, R114: a word decodes to a command exactly when it is that command's encoding, so decoding inverts encoding
and no two words of one command exist. -/
def Obligations.DecodeReadsExactlyTheEncodings : Prop :=
  ∀ (w : Word32) (i : Instr), decode w = .command i ↔ w = encode i

/-- R113, R116: which words are ILLEGAL, what the others decode to, and that an accepted ILLEGAL word completes with
ILLEGAL_COMMAND and changes nothing else, whatever FAILED and DETACHED are, when the sequencer moves by itself, on its
turn and on a single action's input. `inputs` is the model's own (assumption 3). -/
def Obligations.UndecodableWordsAreIllegal : Prop :=
  let bad := fun (w : Word32) =>
    w.toNat / 512 ≠ 0 ∨
    w.toNat % 256 ∉ [0x01, 0x02, 0x03, 0x10, 0x11, 0x12, 0x13, 0x20, 0x21, 0x22, 0x23, 0x24, 0x30, 0x31,
                     0x40, 0x41, 0x42, 0x43, 0x44, 0x45] ∨
    (w.toNat / 256 % 2 = 1 ∧ w.toNat % 256 ∉ [0x10, 0x11, 0x12, 0x13])
  (∀ w : Word32, bad w → ∃ why, decode w = .illegal why) ∧
  (∀ w : Word32, ¬ bad w → ∃ i, decode w = .command i ∧ (opcodeOf i).toNat = w.toNat % 256 ∧
    (targetBitOf i = true ↔ w.toNat / 256 % 2 = 1)) ∧
  (∀ s : State, s.running = true → bad s.cmd →
    (s.inputs = [] → step s = .next { s with result := .illegalCommand, busy := false, seq := none }) ∧
    (∀ rest, s.inputs = .turn :: rest ∨ s.inputs = .action :: rest →
      step s = .next { s with inputs := rest, result := .illegalCommand, busy := false, seq := none }))

/-! ### The step, the host port and reset -/

/-- R31, R72, R113: whenever the sequencer moves by itself, on its turn, or on the response to the transaction in
flight, a step runs the command that the accepted word decodes to; on a single action's input it performs the next
action of that command's script. That a step takes what the agents do from `inputs` is the model's choice (assumption
3). -/
def Obligations.StepRunsDecodedCommand : Prop :=
  ∀ (s : State) (i : Instr), s.running = true → decode s.cmd = .command i →
    (s.inputs = [] → step s = exec i s) ∧
    (∀ rest, s.inputs = .turn :: rest → step s = exec i { s with inputs := rest }) ∧
    (∀ r rest, s.inputs = .reply r :: rest → s.bus.isSome = true → step s = exec i s) ∧
    (∀ rest, s.inputs = .action :: rest → step s = .next (runAction (scriptOf i) { s with inputs := rest }))

/-- R72: a write to CMD while BUSY = 0 is accepted in one step, which latches the operands; while BUSY = 1 it is
ignored. `inputs` is the model's own (assumption 3). -/
def Obligations.CmdWriteAcceptedOnlyWhenIdle : Prop :=
  ∀ (s : State) (off : Byte) (w : Word32) (rest : List Input), s.rst = false → off.toNat / 4 = 0 →
    s.inputs = .access (.write off w) :: rest →
    (s.busy = false → step s = .next { s with
      inputs := rest, cmd := w, larg := s.arg, busy := true, seq := some ⟨w.extractLsb' 0 8, 0⟩ }) ∧
    (s.busy = true → step s = .next { s with inputs := rest })

/-- R46, R47, R271: the bits of STATUS, the numbers of the result codes, and that reading it changes nothing. `inputs`
and `log` are the model's own (assumptions 3 and 4). -/
def Obligations.StatusWordLayout : Prop :=
  (∀ s : State, s.status.getLsbD 0 = s.busy ∧ s.status.getLsbD 1 = s.stream ∧ s.status.getLsbD 2 = s.clkEn ∧
    s.status.getLsbD 3 = s.absent ∧ s.status.getLsbD 4 = s.failed ∧ s.status.getLsbD 5 = s.detached ∧
    s.status.extractLsb' 6 2 = 0 ∧ s.status.extractLsb' 8 4 =
      (match s.result with
        | .ok => 0
        | .busError => 1
        | .notPresent => 2
        | .precondition => 3
        | .invalidArgument => 4
        | .resourceError => 5
        | .illegalCommand => 6) ∧
    s.status.extractLsb' 12 4 = 0 ∧ s.status.extractLsb' 16 16 = s.powerCount) ∧
  (∀ (s : State) (rest : List Input), s.inputs = .access (.read 0x04) :: rest →
    step s = .next { s with inputs := rest, log := s.log ++ [.hostRead 0x04 s.status] })

/-- R73 to R76: what a host read at any offset returns, with offset bits 1:0 ignored and reserved offsets reading 0,
and what a host write at any offset but CMD's does. `inputs`, `log` and `rst` are the model's own (assumptions 3 and
4). -/
def Obligations.HostRegisterMap : Prop :=
  (∀ (s : State) (off : Byte) (rest : List Input), s.inputs = .access (.read off) :: rest →
    step s = .next { s with
      inputs := rest
      log := s.log ++ [.hostRead off
        (match off.toNat / 4 with
          | 0 => s.cmd
          | 1 => s.status
          | 2 => s.arg.r0.setWidth 32
          | 3 => s.arg.r1.setWidth 32
          | 4 => s.arg.r2.setWidth 32
          | 5 => s.arg.r3.setWidth 32
          | 6 => s.res.r0.setWidth 32
          | 7 => s.res.r1.setWidth 32
          | 8 => s.res.r2.setWidth 32
          | 9 => s.res.r3.setWidth 32
          | 10 => s.errInfo.setWidth 32
          | 11 => s.chipVer.setWidth 32
          | _ => 0)] }) ∧
  (∀ (s : State) (off : Byte) (v : Word32) (rest : List Input), s.rst = false → off.toNat / 4 ≠ 0 →
    s.inputs = .access (.write off v) :: rest →
    step s = .next { s with
      inputs := rest
      arg :=
        (match off.toNat / 4 with
          | 2 => { s.arg with r0 := v.setWidth 16 }
          | 3 => { s.arg with r1 := v.setWidth 16 }
          | 4 => { s.arg with r2 := v.setWidth 16 }
          | 5 => { s.arg with r3 := v.setWidth 16 }
          | _ => s.arg) })

/-- R44, R72, R97, R306: a host access while a command runs changes what the command does in no way: with and without
it, running the command leads to the same state but for the ARG registers and the record of the host read itself, and
adds the same events, every transaction and answer included, to the record. The record is the model's own (assumption
4). -/
def Obligations.HostCannotDisturbRunningCommand : Prop :=
  ∀ (s : State) (a : Access) (i : Instr), s.busy = true →
    ∃ t u es, exec i s = .next t ∧ exec i (s.hostAccess a) = .next u ∧ { u with arg := t.arg, log := t.log } = t ∧
      t.arg = s.arg ∧ u.arg = (s.hostAccess a).arg ∧ t.log = s.log ++ es ∧ u.log = (s.hostAccess a).log ++ es

/-- R57, R300: asserting reset in any state loads every element with its reset value, whatever ran before, with FAILED
= NOT res_ok; releasing it leaves that state, and a response that arrives with no transaction in flight, such as an
abandoned one's, is dropped. The model's own: the values of `params`, `inputs`, `log` and `rst` (assumptions 1, 3 and
4), that any response with none in flight is dropped (assumption 8), and that res_ok is sampled at the assertion
(assumption 19). -/
def Obligations.ResetLoadsEveryElement : Prop :=
  (∀ (s : State) (ok : Bool) (rest : List Input), s.inputs = .rstHigh ok :: rest →
    step s = .next
      { params := s.params, failed := !ok, detached := false, absent := false, clkEn := false, powerCount := 0
        stream := false, shadowCc := 0x0000, shadowAa := 0x0003
        actCrop := ⟨1, 5, 752, 480⟩, actFmt := ⟨752, 480⟩, tryCrop := ⟨1, 5, 752, 480⟩, tryFmt := ⟨752, 480⟩
        ctlAg := true, ctlGain := 16, ctlAe := .auto, ctlExp := 480, ctlTp := 0, fiDen := s.params.fiResetDen
        cmd := 0, arg := ⟨0, 0, 0, 0⟩, larg := ⟨0, 0, 0, 0⟩, res := ⟨0, 0, 0, 0⟩, busy := false, result := .ok
        errInfo := 0, chipVer := 0, seq := none, bus := none, rst := true, inputs := rest
        log := s.log ++ [.rst] }) ∧
  (∀ (s : State) (rest : List Input), s.inputs = .rstLow :: rest →
    step s = .next { s with inputs := rest, rst := false }) ∧
  (∀ (s : State) (r : Reply) (rest : List Input), s.bus = none → s.inputs = .reply r :: rest →
    step s = .next { s with inputs := rest })

/-- R302: while rst is asserted, host writes are ignored and host reads return the reset values, which nothing but
another reset or its release changes, and reset does not change the parameters. `inputs`, `log` and `rst` are the
model's own (assumptions 3 and 4). -/
def Obligations.RstHoldsOffTheHost : Prop :=
  (∀ (s : State) (off : Byte) (v : Word32) (rest : List Input), s.rst = true →
    s.inputs = .access (.write off v) :: rest → step s = .next { s with inputs := rest }) ∧
  (∀ (s : State) (ok : Bool) (off : Byte),
    (s.assertRst ok).hostWord off = (if off.toNat / 4 = 1 ∧ ok = false then 0x10 else 0)) ∧
  (∀ (s : State) (ok : Bool), (s.assertRst ok).params = s.params ∧ (s.assertRst ok).rst = true) ∧
  (∀ (s : State) (ok : Bool) (x : Input) (rest : List Input), x ≠ .rstLow → (∀ b, x ≠ .rstHigh b) →
    ∃ log, step { s.assertRst ok with inputs := x :: rest } = .next { s.assertRst ok with inputs := rest, log := log })

/-- R113, R270, R281: the controller never stops: every state has a next state, and every command, legal or not, at
whatever action it stands, is answered by one. A sanity statement: it says nothing of the next state, and that nothing
stops is deduced from those rules (assumption 21). -/
def Obligations.EveryStepAnswersNext : Prop :=
  (∀ s : State, ∃ t, step s = .next t) ∧ (∀ (i : Instr) (s : State), ∃ t, exec i s = .next t)

/-- R31, R90: a turn of the sequencer is the sequence of its single actions: after one action that does not end the
command, running the rest leads where running the whole leads. Single actions as inputs are the model's choice
(assumption 3). -/
def Obligations.TurnIsItsActions : Prop :=
  ∀ (i : Instr) (s : State), s.running = true → (runAction (scriptOf i) s).running = true →
    exec i (runAction (scriptOf i) s) = exec i s

/-- R276: with FAILED or DETACHED set, every command completes with RESOURCE_ERROR and none of its pseudocode runs. -/
def Obligations.ResourceErrorRunsNothing : Prop :=
  ∀ (i : Instr) (s : State), s.Ready → (s.failed = true ∨ s.detached = true) →
    exec i s = .next { s with result := .resourceError, busy := false, seq := none }

/-- R84, R85, R87: MemWrite and MemRead issue their transaction, unless it is in flight already, and wait for the
response, which may come at once or late; an acknowledge lets the command go on, with the data of a read delivered,
and an error records the transaction in ERRINFO and ends the command with BUS_ERROR. Stated for registers that have no
shadow. Responses as inputs and the record are the model's choice (assumptions 3 and 4). -/
def Obligations.TransactionOutcomes : Prop :=
  ∀ (s : State) (r : Byte) (v : State → Word) (f : Word → State → State), r ≠ 0x07 → r ≠ 0xAF →
    let w : Transaction := ⟨s.params.devAddr, r, .write (v s)⟩
    let q : Transaction := ⟨s.params.devAddr, r, .read⟩
    let issue := fun (t : Transaction) => if s.bus = none then [Event.bus t] else []
    (s.bus = none ∨ s.bus = some w →
      (∀ d rest, s.inputs = .reply (.ack d) :: rest → memWrite r v s = .go 0 { s with
        bus := none, inputs := rest, log := s.log ++ issue w ++ [.answer (.ack d)] }) ∧
      (∀ rest, s.inputs = .reply .error :: rest → memWrite r v s = .halt { s with
        bus := none, inputs := rest, log := s.log ++ issue w ++ [.answer .error]
        errInfo := r.setWidth 16, result := .busError, busy := false, seq := none }) ∧
      ((∀ x rest, s.inputs ≠ .reply x :: rest) →
        memWrite r v s = .halt { s with bus := some w, log := s.log ++ issue w })) ∧
    (s.bus = none ∨ s.bus = some q →
      (∀ d rest, s.inputs = .reply (.ack d) :: rest → memRead r f s = .go 0 (f d { s with
        bus := none, inputs := rest, log := s.log ++ issue q ++ [.answer (.ack d)] })) ∧
      (∀ rest, s.inputs = .reply .error :: rest → memRead r f s = .halt { s with
        bus := none, inputs := rest, log := s.log ++ issue q ++ [.answer .error]
        errInfo := 0x100 + r.setWidth 16, result := .busError, busy := false, seq := none }) ∧
      ((∀ x rest, s.inputs ≠ .reply x :: rest) →
        memRead r f s = .halt { s with bus := some q, log := s.log ++ issue q }))

/-- R84 to R86: the framing of a write and of a read on the wire, most significant data byte first, and that the two
data bytes of a read give back the register value. All but the byte order is what the spec marks as general knowledge
(G3, assumption 11). -/
def Obligations.WireFraming : Prop :=
  ∀ (dev : BitVec 7) (r : Byte) (v d : Word),
    Transaction.wire ⟨dev, r, .write v⟩ d =
      [.start, .sent (BitVec.ofNat 8 (2 * dev.toNat)), .sent r, .sent (BitVec.ofNat 8 (v.toNat / 256)),
       .sent (BitVec.ofNat 8 v.toNat), .stop] ∧
    Transaction.wire ⟨dev, r, .read⟩ d =
      [.start, .sent (BitVec.ofNat 8 (2 * dev.toNat)), .sent r, .repeatedStart,
       .sent (BitVec.ofNat 8 (2 * dev.toNat + 1)), .received (BitVec.ofNat 8 (d.toNat / 256)) true,
       .received (BitVec.ofNat 8 d.toNat) false, .stop] ∧
    wordOfWire (BitVec.ofNat 8 (d.toNat / 256)) (BitVec.ofNat 8 d.toNat) = d

/-- R87, R278, R300: a write answered with an error, or cut off by reset, joins the writes of which the sensor
register may hold the old value or the written one; an acknowledged write does not. The host may read registers while
the write waits. Right after a doubtful write the register may hold either value. The list of doubtful writes is the
model's form of R278's sentence (assumption 12). -/
def Obligations.UnacknowledgedWriteIsDoubtful : Prop :=
  ∀ (log : List Event) (dev : BitVec 7) (r : Byte) (v d : Word) (reads : List (Byte × Word32)),
    let issued := log ++ .bus ⟨dev, r, .write v⟩ :: reads.map (fun x => .hostRead x.1 x.2)
    doubtfulWrites (issued ++ [.answer .error]) = doubtfulWrites log ++ [(r, v)] ∧
    doubtfulWrites (issued ++ [.rst]) = doubtfulWrites log ++ [(r, v)] ∧
    doubtfulWrites (issued ++ [.answer (.ack d)]) = doubtfulWrites log ∧
    (∀ old x : Word, x ∈ mayHoldAfterDoubt old v ↔ x = old ∨ x = v)

/-! ### Control commands -/

/-- R202: SET_AUTO_GAIN, all its results: out of range, cold, acknowledged and failed. Responses as inputs and the
record are the model's choice (assumptions 3 and 4). -/
def Obligations.SetAutoGain : Prop :=
  decode 0x00000020 = .command .setAutoGain ∧ ∀ s : State, s.Starts →
    let v := (s.shadowAa &&& 0xFFFD) ||| (s.larg.r0 <<< 1)
    (1 < s.larg.r0.toNat → exec .setAutoGain s =
      .next { s with result := .invalidArgument, busy := false, seq := none }) ∧
    (s.larg.r0.toNat ≤ 1 → s.powerCount = 0 → exec .setAutoGain s =
      .next { s with ctlAg := decide (s.larg.r0 = 1), result := .ok, busy := false, seq := none }) ∧
    (∀ d rest, s.larg.r0.toNat ≤ 1 → s.powerCount ≠ 0 → s.inputs = .reply (.ack d) :: rest → exec .setAutoGain s =
      .next { s with
        ctlAg := decide (s.larg.r0 = 1), shadowAa := v, inputs := rest
        log := s.log ++ [.bus (writeTo s 0xAF v), .answer (.ack d)]
        result := .ok, busy := false, seq := none }) ∧
    (∀ rest, s.larg.r0.toNat ≤ 1 → s.powerCount ≠ 0 → s.inputs = .reply .error :: rest → exec .setAutoGain s =
      .next { s with
        errInfo := 0x0AF, inputs := rest, log := s.log ++ [.bus (writeTo s 0xAF v), .answer .error]
        result := .busError, busy := false, seq := none })

/-- R203: SET_ANALOG_GAIN, all its results. Responses as inputs and the record are the model's choice (assumptions 3
and 4). -/
def Obligations.SetAnalogGain : Prop :=
  decode 0x00000021 = .command .setAnalogGain ∧ ∀ s : State, s.Starts →
    let legal := 16 ≤ s.larg.r0.toNat ∧ s.larg.r0.toNat ≤ 64
    (¬ legal → exec .setAnalogGain s =
      .next { s with result := .invalidArgument, busy := false, seq := none }) ∧
    (legal → s.powerCount = 0 → exec .setAnalogGain s =
      .next { s with ctlGain := s.larg.r0.setWidth 8, result := .ok, busy := false, seq := none }) ∧
    (∀ d rest, legal → s.powerCount ≠ 0 → s.inputs = .reply (.ack d) :: rest → exec .setAnalogGain s =
      .next { s with
        ctlGain := s.larg.r0.setWidth 8, inputs := rest
        log := s.log ++ [.bus (writeTo s 0x35 s.larg.r0), .answer (.ack d)]
        result := .ok, busy := false, seq := none }) ∧
    (∀ rest, legal → s.powerCount ≠ 0 → s.inputs = .reply .error :: rest → exec .setAnalogGain s =
      .next { s with
        errInfo := 0x035, inputs := rest, log := s.log ++ [.bus (writeTo s 0x35 s.larg.r0), .answer .error]
        result := .busError, busy := false, seq := none })

/-- R204: SET_AUTO_EXPOSURE, all its results. The AEC bit is the inverse of the operand. Responses as inputs and the
record are the model's choice (assumptions 3 and 4). -/
def Obligations.SetAutoExposure : Prop :=
  decode 0x00000022 = .command .setAutoExposure ∧ ∀ s : State, s.Starts →
    let v := (s.shadowAa &&& 0xFFFE) ||| (if s.larg.r0 = 0 then 1 else 0)
    let mode := if s.larg.r0 = 0 then ExposureMode.auto else ExposureMode.manual
    (1 < s.larg.r0.toNat → exec .setAutoExposure s =
      .next { s with result := .invalidArgument, busy := false, seq := none }) ∧
    (s.larg.r0.toNat ≤ 1 → s.powerCount = 0 → exec .setAutoExposure s =
      .next { s with ctlAe := mode, result := .ok, busy := false, seq := none }) ∧
    (∀ d rest, s.larg.r0.toNat ≤ 1 → s.powerCount ≠ 0 → s.inputs = .reply (.ack d) :: rest →
      exec .setAutoExposure s = .next { s with
        ctlAe := mode, shadowAa := v, inputs := rest
        log := s.log ++ [.bus (writeTo s 0xAF v), .answer (.ack d)]
        result := .ok, busy := false, seq := none }) ∧
    (∀ rest, s.larg.r0.toNat ≤ 1 → s.powerCount ≠ 0 → s.inputs = .reply .error :: rest →
      exec .setAutoExposure s = .next { s with
        errInfo := 0x0AF, inputs := rest, log := s.log ++ [.bus (writeTo s 0xAF v), .answer .error]
        result := .busError, busy := false, seq := none })

/-- R205: SET_EXPOSURE, all its results, with the range of each variant. Responses as inputs and the record are the
model's choice (assumptions 3 and 4). -/
def Obligations.SetExposure : Prop :=
  decode 0x00000023 = .command .setExposure ∧ ∀ s : State, s.Starts →
    let legal := match s.params.variant with
      | .mt9v032 => 1 ≤ s.larg.r0.toNat ∧ s.larg.r0.toNat ≤ 32767
      | .mt9v034 => s.larg.r0.toNat ≤ 32765
    (¬ legal → exec .setExposure s =
      .next { s with result := .invalidArgument, busy := false, seq := none }) ∧
    (legal → s.powerCount = 0 → exec .setExposure s =
      .next { s with ctlExp := s.larg.r0, result := .ok, busy := false, seq := none }) ∧
    (∀ d rest, legal → s.powerCount ≠ 0 → s.inputs = .reply (.ack d) :: rest → exec .setExposure s =
      .next { s with
        ctlExp := s.larg.r0, inputs := rest
        log := s.log ++ [.bus (writeTo s 0x0B s.larg.r0), .answer (.ack d)]
        result := .ok, busy := false, seq := none }) ∧
    (∀ rest, legal → s.powerCount ≠ 0 → s.inputs = .reply .error :: rest → exec .setExposure s =
      .next { s with
        errInfo := 0x00B, inputs := rest, log := s.log ++ [.bus (writeTo s 0x0B s.larg.r0), .answer .error]
        result := .busError, busy := false, seq := none })

/-- R206: SET_TEST_PATTERN, all its results. Responses as inputs and the record are the model's choice (assumptions 3
and 4). -/
def Obligations.SetTestPattern : Prop :=
  decode 0x00000024 = .command .setTestPattern ∧ ∀ s : State, s.Starts →
    let v := testPatternValue s.larg.r0
    (1023 < s.larg.r0.toNat → exec .setTestPattern s =
      .next { s with result := .invalidArgument, busy := false, seq := none }) ∧
    (s.larg.r0.toNat ≤ 1023 → s.powerCount = 0 → exec .setTestPattern s =
      .next { s with ctlTp := s.larg.r0, result := .ok, busy := false, seq := none }) ∧
    (∀ d rest, s.larg.r0.toNat ≤ 1023 → s.powerCount ≠ 0 → s.inputs = .reply (.ack d) :: rest →
      exec .setTestPattern s = .next { s with
        ctlTp := s.larg.r0, inputs := rest, log := s.log ++ [.bus (writeTo s 0x7F v), .answer (.ack d)]
        result := .ok, busy := false, seq := none }) ∧
    (∀ rest, s.larg.r0.toNat ≤ 1023 → s.powerCount ≠ 0 → s.inputs = .reply .error :: rest →
      exec .setTestPattern s = .next { s with
        errInfo := 0x07F, inputs := rest, log := s.log ++ [.bus (writeTo s 0x7F v), .answer .error]
        result := .busError, busy := false, seq := none })

/-- R207: the TEST_PATTERN value of every selector, as a number. -/
def Obligations.TestPatternValues : Prop :=
  ∀ n : Word, n.toNat ≤ 1023 →
    (testPatternValue n).toNat =
      if n.toNat = 0 then 0
      else if n.toNat ≤ 3 then n.toNat * 2 ^ 11 + 2 ^ 13
      else 2 ^ 14 + 2 ^ 13 + 2 ^ 10 + n.toNat

/-! ### Lifecycle -/

/-- R141, R143: POWER_UP from count 0 with an accepted chip and an acknowledging bus: the whole bus trace and the
whole next state. Responses as inputs and the record are the model's choice (assumptions 3 and 4). -/
def Obligations.PowerUpFromCold : Prop :=
  ∀ (s : State) (v : Word) (ds : List Word) (rest : List Input), s.Starts → s.powerCount = 0 → s.absent = false →
    v ∈ [0x1311, 0x1313, 0x1324] → ds.length = (physOnWrites s).length →
    s.inputs = .reply (.ack v) :: acks ds ++ rest →
    exec .powerUp s = .next { s.poweredOn v with
      powerCount := 1, inputs := rest
      log := s.log ++ identification s v ++ writesAcked s (physOnWrites s) ds
      result := .ok, busy := false, seq := none }

/-- R143: POWER_UP at a positive count counts up to `P_PWR_CNT_MAX` and then gives PRECONDITION, and at count 0 with
ABSENT = 1 it gives NOT_PRESENT; none of these touches the bus or the clock. -/
def Obligations.PowerUpCountsOrRefuses : Prop :=
  ∀ s : State, s.Starts →
    (s.powerCount ≠ 0 → s.powerCount ≠ 65535 → exec .powerUp s =
      .next { s with powerCount := s.powerCount + 1, result := .ok, busy := false, seq := none }) ∧
    (s.powerCount = 65535 → exec .powerUp s =
      .next { s with result := .precondition, busy := false, seq := none }) ∧
    (s.powerCount = 0 → s.absent = true → exec .powerUp s =
      .next { s with result := .notPresent, busy := false, seq := none })

/-- R35, R49, R141: POWER_UP and OPEN from count 0 when the identification read returns a value outside the
allow-list: the clock is disabled, ABSENT is set, CHIPVER keeps the value, and the command ends with NOT_PRESENT. OPEN
has reset the try-state before. Responses as inputs and the record are the model's choice (assumptions 3 and 4). -/
def Obligations.IdentificationMismatch : Prop :=
  ∀ (s : State) (v : Word) (rest : List Input), s.Starts → s.powerCount = 0 → s.absent = false →
    v ∉ [0x1311, 0x1313, 0x1324] → s.inputs = .reply (.ack v) :: rest →
    exec .powerUp s = .next { s with
      clkEn := false, absent := true, chipVer := v, inputs := rest
      log := s.log ++ identification s v ++ [.clkOff], result := .notPresent, busy := false, seq := none } ∧
    exec .openSession s = .next { s with
      tryCrop := ⟨1, 5, 752, 480⟩, tryFmt := ⟨752, 480⟩
      clkEn := false, absent := true, chipVer := v, inputs := rest
      log := s.log ++ identification s v ++ [.clkOff], result := .notPresent, busy := false, seq := none }

/-- R87, R141: a bus error at any transaction of PHYS_ON, for POWER_UP and OPEN: the clock stays enabled, the count
stays 0, ERRINFO names the failing transaction, nothing after it is performed, SHADOW_CC and STREAM are cleared
exactly when the CHIP_CONTROL write came before, and SHADOW_AA is what the acknowledged writes before it say. OPEN has
reset the try-state before. Responses as inputs and the record are the model's choice (assumptions 3 and 4). -/
def Obligations.PhysOnBusErrorKeepsClock : Prop :=
  ∀ (s : State) (i : Instr), s.Starts → s.powerCount = 0 → s.absent = false → i = .powerUp ∨ i = .openSession →
    let s' := if i = .openSession then { s with tryCrop := ⟨1, 5, 752, 480⟩, tryFmt := ⟨752, 480⟩ } else s
    (∀ rest, s.inputs = .reply .error :: rest → exec i s = .next { s' with
      clkEn := true, errInfo := 0x100, inputs := rest
      log := s.log ++ [.clkOn, .delay s.params.tStabNs, .bus (readOf s 0x00), .answer .error]
      result := .busError, busy := false, seq := none }) ∧
    (∀ v ds done r x later rest, v ∈ [(0x1311 : Word), 0x1313, 0x1324] →
      physOnWrites s = done ++ (r, x) :: later → ds.length = done.length →
      s.inputs = .reply (.ack v) :: acks ds ++ .reply .error :: rest → exec i s = .next { s' with
        clkEn := true, chipVer := v, errInfo := r.setWidth 16, inputs := rest
        shadowCc := if done.length < 3 then s.shadowCc else 0
        stream := if done.length < 3 then s.stream else false
        shadowAa := lastAcked 0xAF 0x0003 s.shadowAa none (writesAcked s done ds)
        log := s.log ++ identification s v ++ writesAcked s done ds ++ [.bus (writeTo s r x), .answer .error]
        result := .busError, busy := false, seq := none })

/-- R250: OPEN from count 0 with an accepted chip and an acknowledging bus. Responses as inputs and the record are the
model's choice (assumptions 3 and 4). -/
def Obligations.OpenFromCold : Prop :=
  ∀ (s : State) (v : Word) (ds : List Word) (rest : List Input), s.Starts → s.powerCount = 0 → s.absent = false →
    v ∈ [0x1311, 0x1313, 0x1324] → ds.length = (physOnWrites s).length →
    s.inputs = .reply (.ack v) :: acks ds ++ rest →
    exec .openSession s = .next { s.poweredOn v with
      tryCrop := ⟨1, 5, 752, 480⟩, tryFmt := ⟨752, 480⟩, powerCount := 1, inputs := rest
      log := s.log ++ identification s v ++ writesAcked s (physOnWrites s) ds
      result := .ok, busy := false, seq := none }

/-- R250: OPEN at a positive count resets the try-state and counts up; at `P_PWR_CNT_MAX` it gives PRECONDITION and
leaves the try-state; at count 0 with ABSENT = 1 it gives NOT_PRESENT and keeps the try-state reset. -/
def Obligations.OpenCountsOrRefuses : Prop :=
  ∀ s : State, s.Starts →
    (s.powerCount ≠ 0 → s.powerCount ≠ 65535 → exec .openSession s =
      .next { s with
        tryCrop := ⟨1, 5, 752, 480⟩, tryFmt := ⟨752, 480⟩, powerCount := s.powerCount + 1
        result := .ok, busy := false, seq := none }) ∧
    (s.powerCount = 65535 → exec .openSession s =
      .next { s with result := .precondition, busy := false, seq := none }) ∧
    (s.powerCount = 0 → s.absent = true → exec .openSession s =
      .next { s with
        tryCrop := ⟨1, 5, 752, 480⟩, tryFmt := ⟨752, 480⟩, result := .notPresent, busy := false, seq := none })

/-- R142, R144: POWER_DOWN at any count. The record is the model's own (assumption 4). -/
def Obligations.PowerDownReleases : Prop :=
  decode 0x00000002 = .command .powerDown ∧ ∀ s : State, s.Starts →
    (s.powerCount = 0 → exec .powerDown s =
      .next { s with result := .precondition, busy := false, seq := none }) ∧
    (s.powerCount = 1 → exec .powerDown s =
      .next { s with
        clkEn := false, powerCount := 0, log := s.log ++ [.clkOff], result := .ok, busy := false, seq := none }) ∧
    (1 < s.powerCount.toNat → exec .powerDown s =
      .next { s with powerCount := s.powerCount - 1, result := .ok, busy := false, seq := none })

/-- R251: CLOSE at any count; it touches neither the stream nor the try-state. The record is the model's own
(assumption 4). -/
def Obligations.CloseReleases : Prop :=
  decode 0x00000041 = .command .closeSession ∧ ∀ s : State, s.Starts →
    (s.powerCount = 0 → exec .closeSession s =
      .next { s with result := .precondition, busy := false, seq := none }) ∧
    (s.powerCount = 1 → exec .closeSession s =
      .next { s with
        clkEn := false, powerCount := 0, log := s.log ++ [.clkOff], result := .ok, busy := false, seq := none }) ∧
    (1 < s.powerCount.toNat → exec .closeSession s =
      .next { s with powerCount := s.powerCount - 1, result := .ok, busy := false, seq := none })

/-- R146: TEARDOWN at count 0 disables the clock and detaches the instance, after which every command gives
RESOURCE_ERROR; at any other count it gives PRECONDITION. The record is the model's own (assumption 4). -/
def Obligations.TeardownDetaches : Prop :=
  decode 0x00000003 = .command .teardown ∧ ∀ s : State, s.Starts →
    (s.powerCount = 0 → exec .teardown s =
      .next { s with
        clkEn := false, detached := true, log := s.log ++ [.clkOff], result := .ok, busy := false, seq := none }) ∧
    (s.powerCount ≠ 0 → exec .teardown s =
      .next { s with result := .precondition, busy := false, seq := none }) ∧
    (s.powerCount = 0 → ∃ t, exec .teardown s = .next t ∧ ∀ (i : Instr) (u : State), u.Ready →
      u.detached = t.detached → exec i u = .next { u with result := .resourceError, busy := false, seq := none })

/-- R145, R256: from a cold controller on a bus that acknowledges everything, with any data, and identifies an
accepted chip each time, after any balanced sequence of POWER_UP, OPEN, POWER_DOWN and CLOSE the count is the surplus
and the clock is enabled exactly when the surplus is positive. Every prefix of a balanced sequence is one, so this
says it after each prefix. R145 and R256 are the spec's own inferences; issuing a command for one turn is the model's
form (assumption 3). -/
def Obligations.ReferenceCounting : Prop :=
  ∀ (ps : List PowerIssue) (s : State), s.Quiet → s.Live → s.absent = false → s.powerCount = 0 →
    s.clkEn = false → (∀ p ∈ ps, p.Healthy) →
    let rs := ps.map PowerIssue.request
    balancedRequests rs →
    (issueAll ps s).powerCount.toNat = ups rs - downs rs ∧
    ((issueAll ps s).clkEn = true ↔ downs rs < ups rs)

/-! ### Geometry -/

/-- R171: SET_CROP installs the clamped rectangle in its target, resets the target's format exactly when the size
changes, reports the rectangle, and touches nothing else. -/
def Obligations.SetCropInstallsClamped : Prop :=
  decode 0x00000010 = .command (.setCrop .active) ∧ decode 0x00000110 = .command (.setCrop .attempt) ∧
  ∀ s : State, s.Starts →
    let l : Int := min (max (2 * ((s.larg.r0.toNat + 1) / 2 : Int) - 1) 1) 751
    let t : Int := min (max (2 * ((s.larg.r1.toNat + 1) / 2 : Int) - 1) 5) 481
    let wd : Int := min (min (max (2 * (s.larg.r2.toNat / 2 : Int)) 2) 752) (2 * ((782 - l) / 2))
    let ht : Int := min (min (max (2 * (s.larg.r3.toNat / 2 : Int)) 2) 480) (2 * ((492 - t) / 2))
    let c : Crop := ⟨BitVec.ofInt 16 l, BitVec.ofInt 16 t, BitVec.ofInt 16 wd, BitVec.ofInt 16 ht⟩
    let resized := fun (old : Crop) (f : Format) =>
      if c.width = old.width ∧ c.height = old.height then f else ⟨c.width, c.height⟩
    exec (.setCrop .active) s = .next { s with
      actCrop := c, actFmt := resized s.actCrop s.actFmt, res := ⟨c.left, c.top, c.width, c.height⟩
      result := .ok, busy := false, seq := none } ∧
    exec (.setCrop .attempt) s = .next { s with
      tryCrop := c, tryFmt := resized s.tryCrop s.tryFmt, res := ⟨c.left, c.top, c.width, c.height⟩
      result := .ok, busy := false, seq := none }

/-- R176: whatever the operands, the rectangle SET_CROP installs satisfies R52, and issuing SET_CROP again with the
returned rectangle installs the same rectangle and leaves the format. R176 is the spec's own inference from R171. -/
def Obligations.SetCropClosedAndIdempotent : Prop :=
  ∀ (s : State) (w : Target), s.Starts → ∃ t, exec (.setCrop w) s = .next t ∧ (t.crop w).Legal ∧
    t.res = ⟨(t.crop w).left, (t.crop w).top, (t.crop w).width, (t.crop w).height⟩ ∧
    ∃ u, exec (.setCrop w) ({ t with arg := t.res }.accept (encode (.setCrop w))) = .next u ∧
      u.crop w = t.crop w ∧ u.fmt w = t.fmt w ∧ u.res = t.res

/-- R172: GET_CROP reports its target's crop and changes nothing else. -/
def Obligations.GetCropReports : Prop :=
  decode 0x00000011 = .command (.getCrop .active) ∧ decode 0x00000111 = .command (.getCrop .attempt) ∧
  ∀ s : State, s.Starts →
    exec (.getCrop .active) s = .next { s with
      res := ⟨s.actCrop.left, s.actCrop.top, s.actCrop.width, s.actCrop.height⟩
      result := .ok, busy := false, seq := none } ∧
    exec (.getCrop .attempt) s = .next { s with
      res := ⟨s.tryCrop.left, s.tryCrop.top, s.tryCrop.width, s.tryCrop.height⟩
      result := .ok, busy := false, seq := none }

/-- R170, R173: SET_FORMAT installs the crop extent divided by the rounded and capped ratio, reports it with the
format's constants, and touches nothing else. -/
def Obligations.SetFormatInstalls : Prop :=
  decode 0x00000012 = .command (.setFormat .active) ∧ decode 0x00000112 = .command (.setFormat .attempt) ∧
  ∀ s : State, s.Starts →
    let extent := fun (request crop : Word) =>
      let c : Int := crop.toNat
      let w : Int := min (max (2 * (request.toNat / 2 : Int)) (max (c / 8) 1)) c
      (BitVec.ofInt 16 (c / min 8 ((2 * c + w) / (2 * w))) : Word)
    let installed := fun (c : Crop) => Format.mk (extent s.larg.r0 c.width) (extent s.larg.r1 c.height)
    exec (.setFormat .active) s = .next { s with
      actFmt := installed s.actCrop
      res := ⟨(installed s.actCrop).width, (installed s.actCrop).height, 0x300A, 0x0801⟩
      result := .ok, busy := false, seq := none } ∧
    exec (.setFormat .attempt) s = .next { s with
      tryFmt := installed s.tryCrop
      res := ⟨(installed s.tryCrop).width, (installed s.tryCrop).height, 0x300A, 0x0801⟩
      result := .ok, busy := false, seq := none }

/-- R174: GET_FORMAT reports its target's format with the constants and changes nothing else. -/
def Obligations.GetFormatReports : Prop :=
  decode 0x00000013 = .command (.getFormat .active) ∧ decode 0x00000113 = .command (.getFormat .attempt) ∧
  ∀ s : State, s.Starts →
    exec (.getFormat .active) s = .next { s with
      res := ⟨s.actFmt.width, s.actFmt.height, 0x300A, 0x0801⟩, result := .ok, busy := false, seq := none } ∧
    exec (.getFormat .attempt) s = .next { s with
      res := ⟨s.tryFmt.width, s.tryFmt.height, 0x300A, 0x0801⟩, result := .ok, busy := false, seq := none }

/-- R13, R170: on its domain RATIO is in 1..8, and below the cap it is c/f rounded to the nearest integer with halves
away from zero. The nearest-integer form is inferred from R13's definition. -/
def Obligations.RatioIsRoundedAndCapped : Prop :=
  ∀ c f : Int, 1 ≤ f → f ≤ c →
    1 ≤ ratio c f ∧ ratio c f ≤ 8 ∧
    (ratio c f < 8 → (2 * ratio c f - 1) * f ≤ 2 * c ∧ 2 * c < (2 * ratio c f + 1) * f) ∧
    (ratio c f = 8 → 15 * f ≤ 2 * c)

/-- R177, R232 corner case d: over every even extent SET_CROP can install and every request, SET_FORMAT's ratio is at
most 4 while the ratio STREAM_ON recomputes is above 4 only for extent 14, where the format is 3. Both are the spec's
own inferences. -/
def Obligations.RecomputedRatioCrossesFourOnlyAtFourteen : Prop :=
  ∀ (c : Int) (request : Word), 2 ≤ c → c ≤ 752 → c % 2 = 0 →
    ratio c (formatRequest request c) ≤ 4 → 4 < ratio c (formatExtent request c) →
    c = 14 ∧ formatExtent request c = 3 ∧ ratio c (formatRequest request c) = 4

/-- R175, R257: from any state, at whatever action they stand, the geometry, enumeration and frame-interval commands
issue no bus transaction, take no input, and change neither the power, clock and stream state nor the shadows. R257 is
the spec's own inference; the record is the model's (assumption 4). -/
def Obligations.GeometryAndEnumerationStayOffTheBus : Prop :=
  ∀ (s : State) (i : Instr),
    i ∈ [.setCrop .active, .setCrop .attempt, .getCrop .active, .getCrop .attempt, .setFormat .active,
      .setFormat .attempt, .getFormat .active, .getFormat .attempt, .enumCode, .enumSize, .setFrameInterval,
      .getFrameInterval] →
    ∃ t, exec i s = .next t ∧ t.log = s.log ∧ t.bus = s.bus ∧ t.inputs = s.inputs ∧
      t.powerCount = s.powerCount ∧ t.clkEn = s.clkEn ∧ t.absent = s.absent ∧ t.stream = s.stream ∧
      t.shadowCc = s.shadowCc ∧ t.shadowAa = s.shadowAa ∧ t.errInfo = s.errInfo ∧ t.chipVer = s.chipVer

/-! ### Streaming -/

/-- R231, R232: STREAM_ON from idle, powered, with ratios that are not rejected, on an acknowledging bus: the seven
writes with their values, and the next state. Responses as inputs and the record are the model's choice (assumptions 3
and 4). -/
def Obligations.StreamOnProgramsWindow : Prop :=
  ∀ (s : State) (ds : List Word) (rest : List Input), s.Starts → s.powerCount ≠ 0 → s.stream = false →
    let hr := ratio s.actCrop.width.toNat s.actFmt.width.toNat
    let vr := ratio s.actCrop.height.toNat s.actFmt.height.toNat
    let floor : Int := match s.params.variant with
      | .mt9v032 => 43
      | .mt9v034 => 61
    let ws : List (Byte × Word) :=
      [ (0x0D, (BitVec.ofInt 16 (vr - 1) &&& 3) ||| ((BitVec.ofInt 16 (hr - 1) &&& 3) <<< 2)),
        (0x01, s.actCrop.left), (0x02, s.actCrop.top), (0x04, s.actCrop.width), (0x03, s.actCrop.height),
        (0x05, BitVec.ofInt 16 (max floor (660 - s.actCrop.width.toNat))), (0x07, s.shadowCc ||| 0x0188) ]
    ((hr ≤ 4 ∧ vr ≤ 4) ∨ s.params.binPolicy = .mask) → ds.length = 7 → s.inputs = acks ds ++ rest →
    exec .streamOn s = .next { s with
      shadowCc := s.shadowCc ||| 0x0188, stream := true, inputs := rest, log := s.log ++ writesAcked s ws ds
      result := .ok, busy := false, seq := none }

/-- R232, R234: STREAM_ON without power gives PRECONDITION; while streaming it is OK; with a ratio above 4 under
REJECT it gives PRECONDITION; none of these touches the bus or changes anything but the completion's fields. R234 is
the spec's own inference from R232. -/
def Obligations.StreamOnRefusesOrRepeats : Prop :=
  ∀ s : State, s.Starts →
    (s.powerCount = 0 → exec .streamOn s =
      .next { s with result := .precondition, busy := false, seq := none }) ∧
    (s.powerCount ≠ 0 → s.stream = true → exec .streamOn s =
      .next { s with result := .ok, busy := false, seq := none }) ∧
    (s.powerCount ≠ 0 → s.stream = false → s.params.binPolicy = .reject →
      (4 < ratio s.actCrop.width.toNat s.actFmt.width.toNat ∨
        4 < ratio s.actCrop.height.toNat s.actFmt.height.toNat) →
      exec .streamOn s = .next { s with result := .precondition, busy := false, seq := none })

/-- R232, R235: a bus error at any of STREAM_ON's seven writes ends it there, with STREAM idle, the shadow unchanged,
and exactly the writes before it on the bus; so CHIP_CONTROL is written only after the six window writes are
acknowledged. R235 is the spec's own inference; responses as inputs are the model's choice (assumption 3). -/
def Obligations.StreamOnBusErrorStaysIdle : Prop :=
  ∀ (s : State) (ds : List Word) (done : List (Byte × Word)) (r : Byte) (x : Word) (later : List (Byte × Word))
    (rest : List Input), s.Starts → s.powerCount ≠ 0 → s.stream = false → s.binningRejected = false →
    streamOnWrites s = done ++ (r, x) :: later → ds.length = done.length →
    s.inputs = acks ds ++ .reply .error :: rest →
    exec .streamOn s = .next { s with
      errInfo := r.setWidth 16, inputs := rest
      log := s.log ++ writesAcked s done ds ++ [.bus (writeTo s r x), .answer .error]
      result := .busError, busy := false, seq := none }

/-- R233: STREAM_OFF, all its results. Responses as inputs and the record are the model's choice (assumptions 3 and
4). -/
def Obligations.StreamOffClearsOutput : Prop :=
  decode 0x00000031 = .command .streamOff ∧ ∀ s : State, s.Starts →
    let v := s.shadowCc &&& 0xFE77
    (s.stream = false → exec .streamOff s = .next { s with result := .ok, busy := false, seq := none }) ∧
    (s.stream = true → s.powerCount = 0 → exec .streamOff s =
      .next { s with result := .precondition, busy := false, seq := none }) ∧
    (∀ d rest, s.stream = true → s.powerCount ≠ 0 → s.inputs = .reply (.ack d) :: rest → exec .streamOff s =
      .next { s with
        shadowCc := v, stream := false, inputs := rest
        log := s.log ++ [.bus (writeTo s 0x07 v), .answer (.ack d)]
        result := .ok, busy := false, seq := none }) ∧
    (∀ rest, s.stream = true → s.powerCount ≠ 0 → s.inputs = .reply .error :: rest → exec .streamOff s =
      .next { s with
        errInfo := 0x007, inputs := rest, log := s.log ++ [.bus (writeTo s 0x07 v), .answer .error]
        result := .busError, busy := false, seq := none })

/-! ### Façade -/

/-- R252: ENUM_CODE. -/
def Obligations.EnumCode : Prop :=
  decode 0x00000042 = .command .enumCode ∧ ∀ s : State, s.Starts →
    (s.larg.r0 = 0 → exec .enumCode s =
      .next { s with res := ⟨0x300A, s.res.r1, s.res.r2, s.res.r3⟩, result := .ok, busy := false, seq := none }) ∧
    (s.larg.r0 ≠ 0 → exec .enumCode s =
      .next { s with result := .invalidArgument, busy := false, seq := none })

/-- R253: ENUM_SIZE, with the spec's table of sizes. -/
def Obligations.EnumSize : Prop :=
  decode 0x00000043 = .command .enumSize ∧ ∀ s : State, s.Starts →
    (∀ p ∈ [((1 : Word), (752 : Word), (480 : Word)), (2, 376, 240), (3, 250, 160), (4, 188, 120), (5, 150, 96),
        (6, 125, 80), (7, 107, 68), (8, 94, 60)],
      s.larg.r0 = p.1 → exec .enumSize s =
        .next { s with res := ⟨p.2.1, p.2.2, s.res.r2, s.res.r3⟩, result := .ok, busy := false, seq := none }) ∧
    (s.larg.r0.toNat < 1 ∨ 8 < s.larg.r0.toNat → exec .enumSize s =
      .next { s with result := .invalidArgument, busy := false, seq := none })

/-- R254: SET_FRAME_INTERVAL. -/
def Obligations.SetFrameInterval : Prop :=
  decode 0x00000044 = .command .setFrameInterval ∧ ∀ s : State, s.Starts →
    let legal := s.larg.r0 = 1 ∧ 4 ≤ s.larg.r1.toNat ∧ s.larg.r1.toNat ≤ 60
    (legal → exec .setFrameInterval s =
      .next { s with
        fiDen := s.larg.r1.setWidth 8, res := ⟨1, s.larg.r1, s.res.r2, s.res.r3⟩
        result := .ok, busy := false, seq := none }) ∧
    (¬ legal → exec .setFrameInterval s =
      .next { s with result := .invalidArgument, busy := false, seq := none })

/-- R255: GET_FRAME_INTERVAL. -/
def Obligations.GetFrameInterval : Prop :=
  decode 0x00000045 = .command .getFrameInterval ∧ ∀ s : State, s.Starts → exec .getFrameInterval s =
    .next { s with res := ⟨1, s.fiDen.setWidth 16, s.res.r2, s.res.r3⟩, result := .ok, busy := false, seq := none }

/-! ### Invariants and frames of the whole machine -/

/-- R52, R53: every step keeps both crops legal and both formats realisable by binning. The sums and the format
relation are the spec's own inferences. -/
def Obligations.GeometryInvariantKept : Prop :=
  ∀ s t : State, s.GeometryInv → step s = .next t → t.GeometryInv

/-- R54: every step keeps SHADOW_CC at 0x0188 while streaming and 0x0000 while idle. R54 is the spec's own inference
and speaks between commands; that the equality also holds within a command rests on the model's writing both in the
step of the acknowledge (assumption 22, DEDUCED). -/
def Obligations.ShadowInvariantKept : Prop :=
  ∀ s t : State, s.ShadowInv → step s = .next t → t.ShadowInv

/-- R43, R50: every step keeps the cached controls and the frame interval legal. That the cache is always legal is the
spec's own inference (R43). -/
def Obligations.CacheInvariantKept : Prop :=
  ∀ s t : State, s.CacheInv → step s = .next t → t.CacheInv

/-- R31, R46, R58, R72: every step keeps BUSY, SEQ, CMD and the transaction in flight consistent. That SEQ numbers a
script's actions this way is the model's choice (assumption 7). -/
def Obligations.SequencerInvariantKept : Prop :=
  ∀ s t : State, s.SequencerInv → step s = .next t → t.SequencerInv

/-- R55, R89: every step keeps a positive count's clock enabled between commands, with what each running command adds
to that, and every transaction is issued while the clock is enabled. R55 and R89 are the spec's own inferences; the
phases and the record are the model's (assumptions 4 and 7). -/
def Obligations.PowerInvariantKept : Prop :=
  ∀ s t : State, s.SequencerInv → s.PowerInv → step s = .next t → t.PowerInv

/-- R39, R40, R92: in every step the shadows stay the values of the last acknowledged writes to their registers. The
record is the model's own (assumption 4). -/
def Obligations.ShadowsMirrorTheBus : Prop :=
  ∀ s t : State, s.SequencerInv → s.MirrorInv → step s = .next t → t.MirrorInv

/-- The invariants hold right after reset, for every well-formed parameter record and either value of res_ok. -/
def Obligations.InvariantsHoldAfterReset : Prop :=
  ∀ (p : Params) (ok : Bool), p.wellFormed = true →
    let s := State.afterReset p ok
    s.GeometryInv ∧ s.ShadowInv ∧ s.CacheInv ∧ s.SequencerInv ∧ s.PowerInv ∧ s.MirrorInv

/-- R45, R46, R271, R272: with FAILED and DETACHED clear, a command that ends, from whatever action it stands at, ends
with one of the result codes of its row; while it has not ended RESULT is the previous command's; and RES0..RES3 are
written only by an end with OK. R272 is the spec's own inference. -/
def Obligations.ResultsEachCommandProduces : Prop :=
  ∀ (i : Instr) (s t : State), s.Live → s.running = true → exec i s = .next t →
    let possible : List ResultCode := match i with
      | .powerUp | .openSession => [.ok, .busError, .notPresent, .precondition]
      | .powerDown | .closeSession | .teardown => [.ok, .precondition]
      | .setCrop _ | .getCrop _ | .setFormat _ | .getFormat _ | .getFrameInterval => [.ok]
      | .setAutoGain | .setAnalogGain | .setAutoExposure | .setExposure | .setTestPattern =>
        [.ok, .busError, .invalidArgument]
      | .streamOn | .streamOff => [.ok, .busError, .precondition]
      | .enumCode | .enumSize | .setFrameInterval => [.ok, .invalidArgument]
    (t.running = false → t.result ∈ possible ∧ t.busy = false) ∧
    (t.running = true → t.result = s.result ∧ t.busy = s.busy) ∧
    (t.running = true ∨ t.result ≠ .ok → t.res = s.res)

/-- R33 to R43, R48, R50, R59: which commands can write which state. Any other command, at whatever action it stands,
leaves it: POWER_COUNT, CLK_EN, ABSENT, CHIPVER, ERRINFO (which only a transaction answered with an error writes,
ending the command), DETACHED, FAILED, STREAM, the shadows, the crops and formats, the control cache, FI_DEN, and the
words and operands of the command itself. -/
def Obligations.OnlyTheNamedCommandsWrite : Prop :=
  ∀ (s : State) (i : Instr), ∃ t, exec i s = .next t ∧
    t.params = s.params ∧ t.failed = s.failed ∧ t.cmd = s.cmd ∧ t.arg = s.arg ∧ t.larg = s.larg ∧ t.rst = s.rst ∧
    (t.powerCount = s.powerCount ∨ i ∈ [.powerUp, .powerDown, .openSession, .closeSession]) ∧
    (t.clkEn = s.clkEn ∨ i ∈ [.powerUp, .powerDown, .openSession, .closeSession, .teardown]) ∧
    ((t.absent = s.absent ∧ t.chipVer = s.chipVer) ∨ i ∈ [.powerUp, .openSession]) ∧
    (t.errInfo = s.errInfo ∨
      (t.result = .busError ∧ t.seq = none ∧ t.log.getLast? = some (.answer .error) ∧
        i ∈ [.powerUp, .openSession, .setAutoGain, .setAnalogGain, .setAutoExposure, .setExposure, .setTestPattern,
          .streamOn, .streamOff])) ∧
    (t.detached = s.detached ∨ i = .teardown) ∧
    ((t.stream = s.stream ∧ t.shadowCc = s.shadowCc) ∨ i ∈ [.streamOn, .streamOff, .powerUp, .openSession]) ∧
    (t.shadowAa = s.shadowAa ∨ i ∈ [.setAutoGain, .setAutoExposure, .powerUp, .openSession]) ∧
    (t.actCrop = s.actCrop ∨ i = .setCrop .active) ∧
    (t.actFmt = s.actFmt ∨ i = .setCrop .active ∨ i = .setFormat .active) ∧
    (t.tryCrop = s.tryCrop ∨ i = .setCrop .attempt ∨ i = .openSession) ∧
    (t.tryFmt = s.tryFmt ∨ i = .setCrop .attempt ∨ i = .setFormat .attempt ∨ i = .openSession) ∧
    (t.ctlAg = s.ctlAg ∨ i = .setAutoGain) ∧ (t.ctlGain = s.ctlGain ∨ i = .setAnalogGain) ∧
    (t.ctlAe = s.ctlAe ∨ i = .setAutoExposure) ∧ (t.ctlExp = s.ctlExp ∨ i = .setExposure) ∧
    (t.ctlTp = s.ctlTp ∨ i = .setTestPattern) ∧ (t.fiDen = s.fiDen ∨ i = .setFrameInterval)

/-- R84, R85, R90: when the answers arrive does not matter. A command that has used up the inputs `xs` and waits for the
bus leaves, once further inputs `ys` are there, exactly what it leaves when `ys` stands behind `xs` from the start; so what
the statements above say of a command whose answers are next holds of one whose answers come late. Responses as inputs
are the model's choice (assumption 3). -/
def Obligations.LateAnswersResume : Prop :=
  ∀ (i : Instr) (s t : State) (xs ys : List Input), exec i { s with inputs := xs } = .next t → t.running = true →
    t.inputs = [] → exec i { t with inputs := ys } = exec i { s with inputs := xs ++ ys }
end

