-- ==== Sys2Proof/Laws/State.lean ====
section
/-! SUPPORT. The field lemmas of every named state update: one lemma per field per update, so that no later proof
unfolds a record update. -/

namespace Sys2Proof.Machine

/-! ### `State.emit` -/

section
variable (s : State) (e : Event)

@[simp] theorem State.emit_params : (s.emit e).params = s.params := rfl
@[simp] theorem State.emit_failed : (s.emit e).failed = s.failed := rfl
@[simp] theorem State.emit_detached : (s.emit e).detached = s.detached := rfl
@[simp] theorem State.emit_absent : (s.emit e).absent = s.absent := rfl
@[simp] theorem State.emit_clkEn : (s.emit e).clkEn = s.clkEn := rfl
@[simp] theorem State.emit_powerCount : (s.emit e).powerCount = s.powerCount := rfl
@[simp] theorem State.emit_stream : (s.emit e).stream = s.stream := rfl
@[simp] theorem State.emit_shadowCc : (s.emit e).shadowCc = s.shadowCc := rfl
@[simp] theorem State.emit_shadowAa : (s.emit e).shadowAa = s.shadowAa := rfl
@[simp] theorem State.emit_actCrop : (s.emit e).actCrop = s.actCrop := rfl
@[simp] theorem State.emit_actFmt : (s.emit e).actFmt = s.actFmt := rfl
@[simp] theorem State.emit_tryCrop : (s.emit e).tryCrop = s.tryCrop := rfl
@[simp] theorem State.emit_tryFmt : (s.emit e).tryFmt = s.tryFmt := rfl
@[simp] theorem State.emit_ctlAg : (s.emit e).ctlAg = s.ctlAg := rfl
@[simp] theorem State.emit_ctlGain : (s.emit e).ctlGain = s.ctlGain := rfl
@[simp] theorem State.emit_ctlAe : (s.emit e).ctlAe = s.ctlAe := rfl
@[simp] theorem State.emit_ctlExp : (s.emit e).ctlExp = s.ctlExp := rfl
@[simp] theorem State.emit_ctlTp : (s.emit e).ctlTp = s.ctlTp := rfl
@[simp] theorem State.emit_fiDen : (s.emit e).fiDen = s.fiDen := rfl
@[simp] theorem State.emit_cmd : (s.emit e).cmd = s.cmd := rfl
@[simp] theorem State.emit_arg : (s.emit e).arg = s.arg := rfl
@[simp] theorem State.emit_larg : (s.emit e).larg = s.larg := rfl
@[simp] theorem State.emit_res : (s.emit e).res = s.res := rfl
@[simp] theorem State.emit_busy : (s.emit e).busy = s.busy := rfl
@[simp] theorem State.emit_result : (s.emit e).result = s.result := rfl
@[simp] theorem State.emit_errInfo : (s.emit e).errInfo = s.errInfo := rfl
@[simp] theorem State.emit_chipVer : (s.emit e).chipVer = s.chipVer := rfl
@[simp] theorem State.emit_seq : (s.emit e).seq = s.seq := rfl
@[simp] theorem State.emit_bus : (s.emit e).bus = s.bus := rfl
@[simp] theorem State.emit_rst : (s.emit e).rst = s.rst := rfl
@[simp] theorem State.emit_inputs : (s.emit e).inputs = s.inputs := rfl
@[simp] theorem State.emit_log : (s.emit e).log = s.log ++ [e] := rfl

end

/-! ### `State.complete` -/

section
variable (s : State) (c : ResultCode)

@[simp] theorem State.complete_params : (s.complete c).params = s.params := rfl
@[simp] theorem State.complete_failed : (s.complete c).failed = s.failed := rfl
@[simp] theorem State.complete_detached : (s.complete c).detached = s.detached := rfl
@[simp] theorem State.complete_absent : (s.complete c).absent = s.absent := rfl
@[simp] theorem State.complete_clkEn : (s.complete c).clkEn = s.clkEn := rfl
@[simp] theorem State.complete_powerCount : (s.complete c).powerCount = s.powerCount := rfl
@[simp] theorem State.complete_stream : (s.complete c).stream = s.stream := rfl
@[simp] theorem State.complete_shadowCc : (s.complete c).shadowCc = s.shadowCc := rfl
@[simp] theorem State.complete_shadowAa : (s.complete c).shadowAa = s.shadowAa := rfl
@[simp] theorem State.complete_actCrop : (s.complete c).actCrop = s.actCrop := rfl
@[simp] theorem State.complete_actFmt : (s.complete c).actFmt = s.actFmt := rfl
@[simp] theorem State.complete_tryCrop : (s.complete c).tryCrop = s.tryCrop := rfl
@[simp] theorem State.complete_tryFmt : (s.complete c).tryFmt = s.tryFmt := rfl
@[simp] theorem State.complete_ctlAg : (s.complete c).ctlAg = s.ctlAg := rfl
@[simp] theorem State.complete_ctlGain : (s.complete c).ctlGain = s.ctlGain := rfl
@[simp] theorem State.complete_ctlAe : (s.complete c).ctlAe = s.ctlAe := rfl
@[simp] theorem State.complete_ctlExp : (s.complete c).ctlExp = s.ctlExp := rfl
@[simp] theorem State.complete_ctlTp : (s.complete c).ctlTp = s.ctlTp := rfl
@[simp] theorem State.complete_fiDen : (s.complete c).fiDen = s.fiDen := rfl
@[simp] theorem State.complete_cmd : (s.complete c).cmd = s.cmd := rfl
@[simp] theorem State.complete_arg : (s.complete c).arg = s.arg := rfl
@[simp] theorem State.complete_larg : (s.complete c).larg = s.larg := rfl
@[simp] theorem State.complete_res : (s.complete c).res = s.res := rfl
@[simp] theorem State.complete_busy : (s.complete c).busy = false := rfl
@[simp] theorem State.complete_result : (s.complete c).result = c := rfl
@[simp] theorem State.complete_errInfo : (s.complete c).errInfo = s.errInfo := rfl
@[simp] theorem State.complete_chipVer : (s.complete c).chipVer = s.chipVer := rfl
@[simp] theorem State.complete_seq : (s.complete c).seq = none := rfl
@[simp] theorem State.complete_bus : (s.complete c).bus = s.bus := rfl
@[simp] theorem State.complete_rst : (s.complete c).rst = s.rst := rfl
@[simp] theorem State.complete_inputs : (s.complete c).inputs = s.inputs := rfl
@[simp] theorem State.complete_log : (s.complete c).log = s.log := rfl

end

/-! ### `State.raise` -/

section
variable (s : State) (c : ResultCode)

@[simp] theorem State.raise_params : (s.raise c).params = s.params := rfl
@[simp] theorem State.raise_failed : (s.raise c).failed = s.failed := rfl
@[simp] theorem State.raise_detached : (s.raise c).detached = s.detached := rfl
@[simp] theorem State.raise_absent : (s.raise c).absent = s.absent := rfl
@[simp] theorem State.raise_clkEn : (s.raise c).clkEn = s.clkEn := rfl
@[simp] theorem State.raise_powerCount : (s.raise c).powerCount = s.powerCount := rfl
@[simp] theorem State.raise_stream : (s.raise c).stream = s.stream := rfl
@[simp] theorem State.raise_shadowCc : (s.raise c).shadowCc = s.shadowCc := rfl
@[simp] theorem State.raise_shadowAa : (s.raise c).shadowAa = s.shadowAa := rfl
@[simp] theorem State.raise_actCrop : (s.raise c).actCrop = s.actCrop := rfl
@[simp] theorem State.raise_actFmt : (s.raise c).actFmt = s.actFmt := rfl
@[simp] theorem State.raise_tryCrop : (s.raise c).tryCrop = s.tryCrop := rfl
@[simp] theorem State.raise_tryFmt : (s.raise c).tryFmt = s.tryFmt := rfl
@[simp] theorem State.raise_ctlAg : (s.raise c).ctlAg = s.ctlAg := rfl
@[simp] theorem State.raise_ctlGain : (s.raise c).ctlGain = s.ctlGain := rfl
@[simp] theorem State.raise_ctlAe : (s.raise c).ctlAe = s.ctlAe := rfl
@[simp] theorem State.raise_ctlExp : (s.raise c).ctlExp = s.ctlExp := rfl
@[simp] theorem State.raise_ctlTp : (s.raise c).ctlTp = s.ctlTp := rfl
@[simp] theorem State.raise_fiDen : (s.raise c).fiDen = s.fiDen := rfl
@[simp] theorem State.raise_cmd : (s.raise c).cmd = s.cmd := rfl
@[simp] theorem State.raise_arg : (s.raise c).arg = s.arg := rfl
@[simp] theorem State.raise_larg : (s.raise c).larg = s.larg := rfl
@[simp] theorem State.raise_res : (s.raise c).res = s.res := rfl
@[simp] theorem State.raise_busy : (s.raise c).busy = false := rfl
@[simp] theorem State.raise_result : (s.raise c).result = c := rfl
@[simp] theorem State.raise_errInfo : (s.raise c).errInfo = s.errInfo := rfl
@[simp] theorem State.raise_chipVer : (s.raise c).chipVer = s.chipVer := rfl
@[simp] theorem State.raise_seq : (s.raise c).seq = none := rfl
@[simp] theorem State.raise_bus : (s.raise c).bus = s.bus := rfl
@[simp] theorem State.raise_rst : (s.raise c).rst = s.rst := rfl
@[simp] theorem State.raise_inputs : (s.raise c).inputs = s.inputs := rfl
@[simp] theorem State.raise_log : (s.raise c).log = s.log := rfl

end

/-! ### `State.raiseBusError` -/

section
variable (s : State) (t : Transaction)

@[simp] theorem State.raiseBusError_params : (s.raiseBusError t).params = s.params := rfl
@[simp] theorem State.raiseBusError_failed : (s.raiseBusError t).failed = s.failed := rfl
@[simp] theorem State.raiseBusError_detached : (s.raiseBusError t).detached = s.detached := rfl
@[simp] theorem State.raiseBusError_absent : (s.raiseBusError t).absent = s.absent := rfl
@[simp] theorem State.raiseBusError_clkEn : (s.raiseBusError t).clkEn = s.clkEn := rfl
@[simp] theorem State.raiseBusError_powerCount : (s.raiseBusError t).powerCount = s.powerCount := rfl
@[simp] theorem State.raiseBusError_stream : (s.raiseBusError t).stream = s.stream := rfl
@[simp] theorem State.raiseBusError_shadowCc : (s.raiseBusError t).shadowCc = s.shadowCc := rfl
@[simp] theorem State.raiseBusError_shadowAa : (s.raiseBusError t).shadowAa = s.shadowAa := rfl
@[simp] theorem State.raiseBusError_actCrop : (s.raiseBusError t).actCrop = s.actCrop := rfl
@[simp] theorem State.raiseBusError_actFmt : (s.raiseBusError t).actFmt = s.actFmt := rfl
@[simp] theorem State.raiseBusError_tryCrop : (s.raiseBusError t).tryCrop = s.tryCrop := rfl
@[simp] theorem State.raiseBusError_tryFmt : (s.raiseBusError t).tryFmt = s.tryFmt := rfl
@[simp] theorem State.raiseBusError_ctlAg : (s.raiseBusError t).ctlAg = s.ctlAg := rfl
@[simp] theorem State.raiseBusError_ctlGain : (s.raiseBusError t).ctlGain = s.ctlGain := rfl
@[simp] theorem State.raiseBusError_ctlAe : (s.raiseBusError t).ctlAe = s.ctlAe := rfl
@[simp] theorem State.raiseBusError_ctlExp : (s.raiseBusError t).ctlExp = s.ctlExp := rfl
@[simp] theorem State.raiseBusError_ctlTp : (s.raiseBusError t).ctlTp = s.ctlTp := rfl
@[simp] theorem State.raiseBusError_fiDen : (s.raiseBusError t).fiDen = s.fiDen := rfl
@[simp] theorem State.raiseBusError_cmd : (s.raiseBusError t).cmd = s.cmd := rfl
@[simp] theorem State.raiseBusError_arg : (s.raiseBusError t).arg = s.arg := rfl
@[simp] theorem State.raiseBusError_larg : (s.raiseBusError t).larg = s.larg := rfl
@[simp] theorem State.raiseBusError_res : (s.raiseBusError t).res = s.res := rfl
@[simp] theorem State.raiseBusError_busy : (s.raiseBusError t).busy = false := rfl
@[simp] theorem State.raiseBusError_result : (s.raiseBusError t).result = .busError := rfl
@[simp] theorem State.raiseBusError_errInfo : (s.raiseBusError t).errInfo = errInfoOf t := rfl
@[simp] theorem State.raiseBusError_chipVer : (s.raiseBusError t).chipVer = s.chipVer := rfl
@[simp] theorem State.raiseBusError_seq : (s.raiseBusError t).seq = none := rfl
@[simp] theorem State.raiseBusError_bus : (s.raiseBusError t).bus = s.bus := rfl
@[simp] theorem State.raiseBusError_rst : (s.raiseBusError t).rst = s.rst := rfl
@[simp] theorem State.raiseBusError_inputs : (s.raiseBusError t).inputs = s.inputs := rfl
@[simp] theorem State.raiseBusError_log : (s.raiseBusError t).log = s.log := rfl

end

/-! ### `State.accept` -/

section
variable (s : State) (w : Word32)

@[simp] theorem State.accept_params : (s.accept w).params = s.params := rfl
@[simp] theorem State.accept_failed : (s.accept w).failed = s.failed := rfl
@[simp] theorem State.accept_detached : (s.accept w).detached = s.detached := rfl
@[simp] theorem State.accept_absent : (s.accept w).absent = s.absent := rfl
@[simp] theorem State.accept_clkEn : (s.accept w).clkEn = s.clkEn := rfl
@[simp] theorem State.accept_powerCount : (s.accept w).powerCount = s.powerCount := rfl
@[simp] theorem State.accept_stream : (s.accept w).stream = s.stream := rfl
@[simp] theorem State.accept_shadowCc : (s.accept w).shadowCc = s.shadowCc := rfl
@[simp] theorem State.accept_shadowAa : (s.accept w).shadowAa = s.shadowAa := rfl
@[simp] theorem State.accept_actCrop : (s.accept w).actCrop = s.actCrop := rfl
@[simp] theorem State.accept_actFmt : (s.accept w).actFmt = s.actFmt := rfl
@[simp] theorem State.accept_tryCrop : (s.accept w).tryCrop = s.tryCrop := rfl
@[simp] theorem State.accept_tryFmt : (s.accept w).tryFmt = s.tryFmt := rfl
@[simp] theorem State.accept_ctlAg : (s.accept w).ctlAg = s.ctlAg := rfl
@[simp] theorem State.accept_ctlGain : (s.accept w).ctlGain = s.ctlGain := rfl
@[simp] theorem State.accept_ctlAe : (s.accept w).ctlAe = s.ctlAe := rfl
@[simp] theorem State.accept_ctlExp : (s.accept w).ctlExp = s.ctlExp := rfl
@[simp] theorem State.accept_ctlTp : (s.accept w).ctlTp = s.ctlTp := rfl
@[simp] theorem State.accept_fiDen : (s.accept w).fiDen = s.fiDen := rfl
@[simp] theorem State.accept_cmd : (s.accept w).cmd = w := rfl
@[simp] theorem State.accept_arg : (s.accept w).arg = s.arg := rfl
@[simp] theorem State.accept_larg : (s.accept w).larg = s.arg := rfl
@[simp] theorem State.accept_res : (s.accept w).res = s.res := rfl
@[simp] theorem State.accept_busy : (s.accept w).busy = true := rfl
@[simp] theorem State.accept_result : (s.accept w).result = s.result := rfl
@[simp] theorem State.accept_errInfo : (s.accept w).errInfo = s.errInfo := rfl
@[simp] theorem State.accept_chipVer : (s.accept w).chipVer = s.chipVer := rfl
@[simp] theorem State.accept_seq : (s.accept w).seq = some ⟨opcodeField w, 0⟩ := rfl
@[simp] theorem State.accept_bus : (s.accept w).bus = s.bus := rfl
@[simp] theorem State.accept_rst : (s.accept w).rst = s.rst := rfl
@[simp] theorem State.accept_inputs : (s.accept w).inputs = s.inputs := rfl
@[simp] theorem State.accept_log : (s.accept w).log = s.log := rfl

end

/-! ### `State.advance` -/

section
variable (s : State) (n : Nat)

@[simp] theorem State.advance_params : (s.advance n).params = s.params := rfl
@[simp] theorem State.advance_failed : (s.advance n).failed = s.failed := rfl
@[simp] theorem State.advance_detached : (s.advance n).detached = s.detached := rfl
@[simp] theorem State.advance_absent : (s.advance n).absent = s.absent := rfl
@[simp] theorem State.advance_clkEn : (s.advance n).clkEn = s.clkEn := rfl
@[simp] theorem State.advance_powerCount : (s.advance n).powerCount = s.powerCount := rfl
@[simp] theorem State.advance_stream : (s.advance n).stream = s.stream := rfl
@[simp] theorem State.advance_shadowCc : (s.advance n).shadowCc = s.shadowCc := rfl
@[simp] theorem State.advance_shadowAa : (s.advance n).shadowAa = s.shadowAa := rfl
@[simp] theorem State.advance_actCrop : (s.advance n).actCrop = s.actCrop := rfl
@[simp] theorem State.advance_actFmt : (s.advance n).actFmt = s.actFmt := rfl
@[simp] theorem State.advance_tryCrop : (s.advance n).tryCrop = s.tryCrop := rfl
@[simp] theorem State.advance_tryFmt : (s.advance n).tryFmt = s.tryFmt := rfl
@[simp] theorem State.advance_ctlAg : (s.advance n).ctlAg = s.ctlAg := rfl
@[simp] theorem State.advance_ctlGain : (s.advance n).ctlGain = s.ctlGain := rfl
@[simp] theorem State.advance_ctlAe : (s.advance n).ctlAe = s.ctlAe := rfl
@[simp] theorem State.advance_ctlExp : (s.advance n).ctlExp = s.ctlExp := rfl
@[simp] theorem State.advance_ctlTp : (s.advance n).ctlTp = s.ctlTp := rfl
@[simp] theorem State.advance_fiDen : (s.advance n).fiDen = s.fiDen := rfl
@[simp] theorem State.advance_cmd : (s.advance n).cmd = s.cmd := rfl
@[simp] theorem State.advance_arg : (s.advance n).arg = s.arg := rfl
@[simp] theorem State.advance_larg : (s.advance n).larg = s.larg := rfl
@[simp] theorem State.advance_res : (s.advance n).res = s.res := rfl
@[simp] theorem State.advance_busy : (s.advance n).busy = s.busy := rfl
@[simp] theorem State.advance_result : (s.advance n).result = s.result := rfl
@[simp] theorem State.advance_errInfo : (s.advance n).errInfo = s.errInfo := rfl
@[simp] theorem State.advance_chipVer : (s.advance n).chipVer = s.chipVer := rfl
@[simp] theorem State.advance_seq : (s.advance n).seq = s.seq.map (fun q => { q with step := q.step + n }) := rfl
@[simp] theorem State.advance_bus : (s.advance n).bus = s.bus := rfl
@[simp] theorem State.advance_rst : (s.advance n).rst = s.rst := rfl
@[simp] theorem State.advance_inputs : (s.advance n).inputs = s.inputs := rfl
@[simp] theorem State.advance_log : (s.advance n).log = s.log := rfl

end

/-! ### `State.answered` -/

section
variable (s : State) (r : Reply) (rest : List Input)

@[simp] theorem State.answered_params : (s.answered r rest).params = s.params := rfl
@[simp] theorem State.answered_failed : (s.answered r rest).failed = s.failed := rfl
@[simp] theorem State.answered_detached : (s.answered r rest).detached = s.detached := rfl
@[simp] theorem State.answered_absent : (s.answered r rest).absent = s.absent := rfl
@[simp] theorem State.answered_clkEn : (s.answered r rest).clkEn = s.clkEn := rfl
@[simp] theorem State.answered_powerCount : (s.answered r rest).powerCount = s.powerCount := rfl
@[simp] theorem State.answered_stream : (s.answered r rest).stream = s.stream := rfl
@[simp] theorem State.answered_shadowCc : (s.answered r rest).shadowCc = s.shadowCc := rfl
@[simp] theorem State.answered_shadowAa : (s.answered r rest).shadowAa = s.shadowAa := rfl
@[simp] theorem State.answered_actCrop : (s.answered r rest).actCrop = s.actCrop := rfl
@[simp] theorem State.answered_actFmt : (s.answered r rest).actFmt = s.actFmt := rfl
@[simp] theorem State.answered_tryCrop : (s.answered r rest).tryCrop = s.tryCrop := rfl
@[simp] theorem State.answered_tryFmt : (s.answered r rest).tryFmt = s.tryFmt := rfl
@[simp] theorem State.answered_ctlAg : (s.answered r rest).ctlAg = s.ctlAg := rfl
@[simp] theorem State.answered_ctlGain : (s.answered r rest).ctlGain = s.ctlGain := rfl
@[simp] theorem State.answered_ctlAe : (s.answered r rest).ctlAe = s.ctlAe := rfl
@[simp] theorem State.answered_ctlExp : (s.answered r rest).ctlExp = s.ctlExp := rfl
@[simp] theorem State.answered_ctlTp : (s.answered r rest).ctlTp = s.ctlTp := rfl
@[simp] theorem State.answered_fiDen : (s.answered r rest).fiDen = s.fiDen := rfl
@[simp] theorem State.answered_cmd : (s.answered r rest).cmd = s.cmd := rfl
@[simp] theorem State.answered_arg : (s.answered r rest).arg = s.arg := rfl
@[simp] theorem State.answered_larg : (s.answered r rest).larg = s.larg := rfl
@[simp] theorem State.answered_res : (s.answered r rest).res = s.res := rfl
@[simp] theorem State.answered_busy : (s.answered r rest).busy = s.busy := rfl
@[simp] theorem State.answered_result : (s.answered r rest).result = s.result := rfl
@[simp] theorem State.answered_errInfo : (s.answered r rest).errInfo = s.errInfo := rfl
@[simp] theorem State.answered_chipVer : (s.answered r rest).chipVer = s.chipVer := rfl
@[simp] theorem State.answered_seq : (s.answered r rest).seq = s.seq := rfl
@[simp] theorem State.answered_bus : (s.answered r rest).bus = none := rfl
@[simp] theorem State.answered_rst : (s.answered r rest).rst = s.rst := rfl
@[simp] theorem State.answered_inputs : (s.answered r rest).inputs = rest := rfl
@[simp] theorem State.answered_log : (s.answered r rest).log = s.log ++ [.answer r] := rfl

end

/-! ### `State.withCount` -/

section
variable (s : State) (v : Word)

@[simp] theorem State.withCount_params : (s.withCount v).params = s.params := rfl
@[simp] theorem State.withCount_failed : (s.withCount v).failed = s.failed := rfl
@[simp] theorem State.withCount_detached : (s.withCount v).detached = s.detached := rfl
@[simp] theorem State.withCount_absent : (s.withCount v).absent = s.absent := rfl
@[simp] theorem State.withCount_clkEn : (s.withCount v).clkEn = s.clkEn := rfl
@[simp] theorem State.withCount_powerCount : (s.withCount v).powerCount = v := rfl
@[simp] theorem State.withCount_stream : (s.withCount v).stream = s.stream := rfl
@[simp] theorem State.withCount_shadowCc : (s.withCount v).shadowCc = s.shadowCc := rfl
@[simp] theorem State.withCount_shadowAa : (s.withCount v).shadowAa = s.shadowAa := rfl
@[simp] theorem State.withCount_actCrop : (s.withCount v).actCrop = s.actCrop := rfl
@[simp] theorem State.withCount_actFmt : (s.withCount v).actFmt = s.actFmt := rfl
@[simp] theorem State.withCount_tryCrop : (s.withCount v).tryCrop = s.tryCrop := rfl
@[simp] theorem State.withCount_tryFmt : (s.withCount v).tryFmt = s.tryFmt := rfl
@[simp] theorem State.withCount_ctlAg : (s.withCount v).ctlAg = s.ctlAg := rfl
@[simp] theorem State.withCount_ctlGain : (s.withCount v).ctlGain = s.ctlGain := rfl
@[simp] theorem State.withCount_ctlAe : (s.withCount v).ctlAe = s.ctlAe := rfl
@[simp] theorem State.withCount_ctlExp : (s.withCount v).ctlExp = s.ctlExp := rfl
@[simp] theorem State.withCount_ctlTp : (s.withCount v).ctlTp = s.ctlTp := rfl
@[simp] theorem State.withCount_fiDen : (s.withCount v).fiDen = s.fiDen := rfl
@[simp] theorem State.withCount_cmd : (s.withCount v).cmd = s.cmd := rfl
@[simp] theorem State.withCount_arg : (s.withCount v).arg = s.arg := rfl
@[simp] theorem State.withCount_larg : (s.withCount v).larg = s.larg := rfl
@[simp] theorem State.withCount_res : (s.withCount v).res = s.res := rfl
@[simp] theorem State.withCount_busy : (s.withCount v).busy = s.busy := rfl
@[simp] theorem State.withCount_result : (s.withCount v).result = s.result := rfl
@[simp] theorem State.withCount_errInfo : (s.withCount v).errInfo = s.errInfo := rfl
@[simp] theorem State.withCount_chipVer : (s.withCount v).chipVer = s.chipVer := rfl
@[simp] theorem State.withCount_seq : (s.withCount v).seq = s.seq := rfl
@[simp] theorem State.withCount_bus : (s.withCount v).bus = s.bus := rfl
@[simp] theorem State.withCount_rst : (s.withCount v).rst = s.rst := rfl
@[simp] theorem State.withCount_inputs : (s.withCount v).inputs = s.inputs := rfl
@[simp] theorem State.withCount_log : (s.withCount v).log = s.log := rfl

end

/-! ### `State.freshTry` -/

section
variable (s : State)

@[simp] theorem State.freshTry_params : (s.freshTry).params = s.params := rfl
@[simp] theorem State.freshTry_failed : (s.freshTry).failed = s.failed := rfl
@[simp] theorem State.freshTry_detached : (s.freshTry).detached = s.detached := rfl
@[simp] theorem State.freshTry_absent : (s.freshTry).absent = s.absent := rfl
@[simp] theorem State.freshTry_clkEn : (s.freshTry).clkEn = s.clkEn := rfl
@[simp] theorem State.freshTry_powerCount : (s.freshTry).powerCount = s.powerCount := rfl
@[simp] theorem State.freshTry_stream : (s.freshTry).stream = s.stream := rfl
@[simp] theorem State.freshTry_shadowCc : (s.freshTry).shadowCc = s.shadowCc := rfl
@[simp] theorem State.freshTry_shadowAa : (s.freshTry).shadowAa = s.shadowAa := rfl
@[simp] theorem State.freshTry_actCrop : (s.freshTry).actCrop = s.actCrop := rfl
@[simp] theorem State.freshTry_actFmt : (s.freshTry).actFmt = s.actFmt := rfl
@[simp] theorem State.freshTry_tryCrop : (s.freshTry).tryCrop = defaultCrop := rfl
@[simp] theorem State.freshTry_tryFmt : (s.freshTry).tryFmt = defaultFormat := rfl
@[simp] theorem State.freshTry_ctlAg : (s.freshTry).ctlAg = s.ctlAg := rfl
@[simp] theorem State.freshTry_ctlGain : (s.freshTry).ctlGain = s.ctlGain := rfl
@[simp] theorem State.freshTry_ctlAe : (s.freshTry).ctlAe = s.ctlAe := rfl
@[simp] theorem State.freshTry_ctlExp : (s.freshTry).ctlExp = s.ctlExp := rfl
@[simp] theorem State.freshTry_ctlTp : (s.freshTry).ctlTp = s.ctlTp := rfl
@[simp] theorem State.freshTry_fiDen : (s.freshTry).fiDen = s.fiDen := rfl
@[simp] theorem State.freshTry_cmd : (s.freshTry).cmd = s.cmd := rfl
@[simp] theorem State.freshTry_arg : (s.freshTry).arg = s.arg := rfl
@[simp] theorem State.freshTry_larg : (s.freshTry).larg = s.larg := rfl
@[simp] theorem State.freshTry_res : (s.freshTry).res = s.res := rfl
@[simp] theorem State.freshTry_busy : (s.freshTry).busy = s.busy := rfl
@[simp] theorem State.freshTry_result : (s.freshTry).result = s.result := rfl
@[simp] theorem State.freshTry_errInfo : (s.freshTry).errInfo = s.errInfo := rfl
@[simp] theorem State.freshTry_chipVer : (s.freshTry).chipVer = s.chipVer := rfl
@[simp] theorem State.freshTry_seq : (s.freshTry).seq = s.seq := rfl
@[simp] theorem State.freshTry_bus : (s.freshTry).bus = s.bus := rfl
@[simp] theorem State.freshTry_rst : (s.freshTry).rst = s.rst := rfl
@[simp] theorem State.freshTry_inputs : (s.freshTry).inputs = s.inputs := rfl
@[simp] theorem State.freshTry_log : (s.freshTry).log = s.log := rfl

end

/-! ### `State.resCrop` -/

section
variable (s : State) (c : Crop)

@[simp] theorem State.resCrop_params : (s.resCrop c).params = s.params := rfl
@[simp] theorem State.resCrop_failed : (s.resCrop c).failed = s.failed := rfl
@[simp] theorem State.resCrop_detached : (s.resCrop c).detached = s.detached := rfl
@[simp] theorem State.resCrop_absent : (s.resCrop c).absent = s.absent := rfl
@[simp] theorem State.resCrop_clkEn : (s.resCrop c).clkEn = s.clkEn := rfl
@[simp] theorem State.resCrop_powerCount : (s.resCrop c).powerCount = s.powerCount := rfl
@[simp] theorem State.resCrop_stream : (s.resCrop c).stream = s.stream := rfl
@[simp] theorem State.resCrop_shadowCc : (s.resCrop c).shadowCc = s.shadowCc := rfl
@[simp] theorem State.resCrop_shadowAa : (s.resCrop c).shadowAa = s.shadowAa := rfl
@[simp] theorem State.resCrop_actCrop : (s.resCrop c).actCrop = s.actCrop := rfl
@[simp] theorem State.resCrop_actFmt : (s.resCrop c).actFmt = s.actFmt := rfl
@[simp] theorem State.resCrop_tryCrop : (s.resCrop c).tryCrop = s.tryCrop := rfl
@[simp] theorem State.resCrop_tryFmt : (s.resCrop c).tryFmt = s.tryFmt := rfl
@[simp] theorem State.resCrop_ctlAg : (s.resCrop c).ctlAg = s.ctlAg := rfl
@[simp] theorem State.resCrop_ctlGain : (s.resCrop c).ctlGain = s.ctlGain := rfl
@[simp] theorem State.resCrop_ctlAe : (s.resCrop c).ctlAe = s.ctlAe := rfl
@[simp] theorem State.resCrop_ctlExp : (s.resCrop c).ctlExp = s.ctlExp := rfl
@[simp] theorem State.resCrop_ctlTp : (s.resCrop c).ctlTp = s.ctlTp := rfl
@[simp] theorem State.resCrop_fiDen : (s.resCrop c).fiDen = s.fiDen := rfl
@[simp] theorem State.resCrop_cmd : (s.resCrop c).cmd = s.cmd := rfl
@[simp] theorem State.resCrop_arg : (s.resCrop c).arg = s.arg := rfl
@[simp] theorem State.resCrop_larg : (s.resCrop c).larg = s.larg := rfl
@[simp] theorem State.resCrop_res : (s.resCrop c).res = ⟨c.left, c.top, c.width, c.height⟩ := rfl
@[simp] theorem State.resCrop_busy : (s.resCrop c).busy = s.busy := rfl
@[simp] theorem State.resCrop_result : (s.resCrop c).result = s.result := rfl
@[simp] theorem State.resCrop_errInfo : (s.resCrop c).errInfo = s.errInfo := rfl
@[simp] theorem State.resCrop_chipVer : (s.resCrop c).chipVer = s.chipVer := rfl
@[simp] theorem State.resCrop_seq : (s.resCrop c).seq = s.seq := rfl
@[simp] theorem State.resCrop_bus : (s.resCrop c).bus = s.bus := rfl
@[simp] theorem State.resCrop_rst : (s.resCrop c).rst = s.rst := rfl
@[simp] theorem State.resCrop_inputs : (s.resCrop c).inputs = s.inputs := rfl
@[simp] theorem State.resCrop_log : (s.resCrop c).log = s.log := rfl

end

/-! ### `State.resFmt` -/

section
variable (s : State) (f : Format)

@[simp] theorem State.resFmt_params : (s.resFmt f).params = s.params := rfl
@[simp] theorem State.resFmt_failed : (s.resFmt f).failed = s.failed := rfl
@[simp] theorem State.resFmt_detached : (s.resFmt f).detached = s.detached := rfl
@[simp] theorem State.resFmt_absent : (s.resFmt f).absent = s.absent := rfl
@[simp] theorem State.resFmt_clkEn : (s.resFmt f).clkEn = s.clkEn := rfl
@[simp] theorem State.resFmt_powerCount : (s.resFmt f).powerCount = s.powerCount := rfl
@[simp] theorem State.resFmt_stream : (s.resFmt f).stream = s.stream := rfl
@[simp] theorem State.resFmt_shadowCc : (s.resFmt f).shadowCc = s.shadowCc := rfl
@[simp] theorem State.resFmt_shadowAa : (s.resFmt f).shadowAa = s.shadowAa := rfl
@[simp] theorem State.resFmt_actCrop : (s.resFmt f).actCrop = s.actCrop := rfl
@[simp] theorem State.resFmt_actFmt : (s.resFmt f).actFmt = s.actFmt := rfl
@[simp] theorem State.resFmt_tryCrop : (s.resFmt f).tryCrop = s.tryCrop := rfl
@[simp] theorem State.resFmt_tryFmt : (s.resFmt f).tryFmt = s.tryFmt := rfl
@[simp] theorem State.resFmt_ctlAg : (s.resFmt f).ctlAg = s.ctlAg := rfl
@[simp] theorem State.resFmt_ctlGain : (s.resFmt f).ctlGain = s.ctlGain := rfl
@[simp] theorem State.resFmt_ctlAe : (s.resFmt f).ctlAe = s.ctlAe := rfl
@[simp] theorem State.resFmt_ctlExp : (s.resFmt f).ctlExp = s.ctlExp := rfl
@[simp] theorem State.resFmt_ctlTp : (s.resFmt f).ctlTp = s.ctlTp := rfl
@[simp] theorem State.resFmt_fiDen : (s.resFmt f).fiDen = s.fiDen := rfl
@[simp] theorem State.resFmt_cmd : (s.resFmt f).cmd = s.cmd := rfl
@[simp] theorem State.resFmt_arg : (s.resFmt f).arg = s.arg := rfl
@[simp] theorem State.resFmt_larg : (s.resFmt f).larg = s.larg := rfl
@[simp] theorem State.resFmt_res : (s.resFmt f).res = ⟨f.width, f.height, fmtCode, fieldCode ||| (csCode <<< 8)⟩ := rfl
@[simp] theorem State.resFmt_busy : (s.resFmt f).busy = s.busy := rfl
@[simp] theorem State.resFmt_result : (s.resFmt f).result = s.result := rfl
@[simp] theorem State.resFmt_errInfo : (s.resFmt f).errInfo = s.errInfo := rfl
@[simp] theorem State.resFmt_chipVer : (s.resFmt f).chipVer = s.chipVer := rfl
@[simp] theorem State.resFmt_seq : (s.resFmt f).seq = s.seq := rfl
@[simp] theorem State.resFmt_bus : (s.resFmt f).bus = s.bus := rfl
@[simp] theorem State.resFmt_rst : (s.resFmt f).rst = s.rst := rfl
@[simp] theorem State.resFmt_inputs : (s.resFmt f).inputs = s.inputs := rfl
@[simp] theorem State.resFmt_log : (s.resFmt f).log = s.log := rfl

end

/-! ### `State.resPair` -/

section
variable (s : State) (a b : Word)

@[simp] theorem State.resPair_params : (s.resPair a b).params = s.params := rfl
@[simp] theorem State.resPair_failed : (s.resPair a b).failed = s.failed := rfl
@[simp] theorem State.resPair_detached : (s.resPair a b).detached = s.detached := rfl
@[simp] theorem State.resPair_absent : (s.resPair a b).absent = s.absent := rfl
@[simp] theorem State.resPair_clkEn : (s.resPair a b).clkEn = s.clkEn := rfl
@[simp] theorem State.resPair_powerCount : (s.resPair a b).powerCount = s.powerCount := rfl
@[simp] theorem State.resPair_stream : (s.resPair a b).stream = s.stream := rfl
@[simp] theorem State.resPair_shadowCc : (s.resPair a b).shadowCc = s.shadowCc := rfl
@[simp] theorem State.resPair_shadowAa : (s.resPair a b).shadowAa = s.shadowAa := rfl
@[simp] theorem State.resPair_actCrop : (s.resPair a b).actCrop = s.actCrop := rfl
@[simp] theorem State.resPair_actFmt : (s.resPair a b).actFmt = s.actFmt := rfl
@[simp] theorem State.resPair_tryCrop : (s.resPair a b).tryCrop = s.tryCrop := rfl
@[simp] theorem State.resPair_tryFmt : (s.resPair a b).tryFmt = s.tryFmt := rfl
@[simp] theorem State.resPair_ctlAg : (s.resPair a b).ctlAg = s.ctlAg := rfl
@[simp] theorem State.resPair_ctlGain : (s.resPair a b).ctlGain = s.ctlGain := rfl
@[simp] theorem State.resPair_ctlAe : (s.resPair a b).ctlAe = s.ctlAe := rfl
@[simp] theorem State.resPair_ctlExp : (s.resPair a b).ctlExp = s.ctlExp := rfl
@[simp] theorem State.resPair_ctlTp : (s.resPair a b).ctlTp = s.ctlTp := rfl
@[simp] theorem State.resPair_fiDen : (s.resPair a b).fiDen = s.fiDen := rfl
@[simp] theorem State.resPair_cmd : (s.resPair a b).cmd = s.cmd := rfl
@[simp] theorem State.resPair_arg : (s.resPair a b).arg = s.arg := rfl
@[simp] theorem State.resPair_larg : (s.resPair a b).larg = s.larg := rfl
@[simp] theorem State.resPair_res : (s.resPair a b).res = { s.res with r0 := a, r1 := b } := rfl
@[simp] theorem State.resPair_busy : (s.resPair a b).busy = s.busy := rfl
@[simp] theorem State.resPair_result : (s.resPair a b).result = s.result := rfl
@[simp] theorem State.resPair_errInfo : (s.resPair a b).errInfo = s.errInfo := rfl
@[simp] theorem State.resPair_chipVer : (s.resPair a b).chipVer = s.chipVer := rfl
@[simp] theorem State.resPair_seq : (s.resPair a b).seq = s.seq := rfl
@[simp] theorem State.resPair_bus : (s.resPair a b).bus = s.bus := rfl
@[simp] theorem State.resPair_rst : (s.resPair a b).rst = s.rst := rfl
@[simp] theorem State.resPair_inputs : (s.resPair a b).inputs = s.inputs := rfl
@[simp] theorem State.resPair_log : (s.resPair a b).log = s.log := rfl

end

/-! ### `State.assertRst` -/

section
variable (s : State) (resOk : Bool)

@[simp] theorem State.assertRst_params : (s.assertRst resOk).params = s.params := rfl
@[simp] theorem State.assertRst_failed : (s.assertRst resOk).failed = !resOk := rfl
@[simp] theorem State.assertRst_detached : (s.assertRst resOk).detached = false := rfl
@[simp] theorem State.assertRst_absent : (s.assertRst resOk).absent = false := rfl
@[simp] theorem State.assertRst_clkEn : (s.assertRst resOk).clkEn = false := rfl
@[simp] theorem State.assertRst_powerCount : (s.assertRst resOk).powerCount = 0 := rfl
@[simp] theorem State.assertRst_stream : (s.assertRst resOk).stream = false := rfl
@[simp] theorem State.assertRst_shadowCc : (s.assertRst resOk).shadowCc = 0x0000 := rfl
@[simp] theorem State.assertRst_shadowAa : (s.assertRst resOk).shadowAa = 0x0003 := rfl
@[simp] theorem State.assertRst_actCrop : (s.assertRst resOk).actCrop = defaultCrop := rfl
@[simp] theorem State.assertRst_actFmt : (s.assertRst resOk).actFmt = defaultFormat := rfl
@[simp] theorem State.assertRst_tryCrop : (s.assertRst resOk).tryCrop = defaultCrop := rfl
@[simp] theorem State.assertRst_tryFmt : (s.assertRst resOk).tryFmt = defaultFormat := rfl
@[simp] theorem State.assertRst_ctlAg : (s.assertRst resOk).ctlAg = true := rfl
@[simp] theorem State.assertRst_ctlGain : (s.assertRst resOk).ctlGain = defaultGain := rfl
@[simp] theorem State.assertRst_ctlAe : (s.assertRst resOk).ctlAe = .auto := rfl
@[simp] theorem State.assertRst_ctlExp : (s.assertRst resOk).ctlExp = defaultExposure := rfl
@[simp] theorem State.assertRst_ctlTp : (s.assertRst resOk).ctlTp = 0 := rfl
@[simp] theorem State.assertRst_fiDen : (s.assertRst resOk).fiDen = s.params.fiResetDen := rfl
@[simp] theorem State.assertRst_cmd : (s.assertRst resOk).cmd = 0 := rfl
@[simp] theorem State.assertRst_arg : (s.assertRst resOk).arg = zeroQuad := rfl
@[simp] theorem State.assertRst_larg : (s.assertRst resOk).larg = zeroQuad := rfl
@[simp] theorem State.assertRst_res : (s.assertRst resOk).res = zeroQuad := rfl
@[simp] theorem State.assertRst_busy : (s.assertRst resOk).busy = false := rfl
@[simp] theorem State.assertRst_result : (s.assertRst resOk).result = .ok := rfl
@[simp] theorem State.assertRst_errInfo : (s.assertRst resOk).errInfo = 0 := rfl
@[simp] theorem State.assertRst_chipVer : (s.assertRst resOk).chipVer = 0 := rfl
@[simp] theorem State.assertRst_seq : (s.assertRst resOk).seq = none := rfl
@[simp] theorem State.assertRst_bus : (s.assertRst resOk).bus = none := rfl
@[simp] theorem State.assertRst_rst : (s.assertRst resOk).rst = true := rfl
@[simp] theorem State.assertRst_inputs : (s.assertRst resOk).inputs = s.inputs := rfl
@[simp] theorem State.assertRst_log : (s.assertRst resOk).log = s.log ++ [.rst] := rfl

end

/-! ### `State.releaseRst` -/

section
variable (s : State)

@[simp] theorem State.releaseRst_params : (s.releaseRst).params = s.params := rfl
@[simp] theorem State.releaseRst_failed : (s.releaseRst).failed = s.failed := rfl
@[simp] theorem State.releaseRst_detached : (s.releaseRst).detached = s.detached := rfl
@[simp] theorem State.releaseRst_absent : (s.releaseRst).absent = s.absent := rfl
@[simp] theorem State.releaseRst_clkEn : (s.releaseRst).clkEn = s.clkEn := rfl
@[simp] theorem State.releaseRst_powerCount : (s.releaseRst).powerCount = s.powerCount := rfl
@[simp] theorem State.releaseRst_stream : (s.releaseRst).stream = s.stream := rfl
@[simp] theorem State.releaseRst_shadowCc : (s.releaseRst).shadowCc = s.shadowCc := rfl
@[simp] theorem State.releaseRst_shadowAa : (s.releaseRst).shadowAa = s.shadowAa := rfl
@[simp] theorem State.releaseRst_actCrop : (s.releaseRst).actCrop = s.actCrop := rfl
@[simp] theorem State.releaseRst_actFmt : (s.releaseRst).actFmt = s.actFmt := rfl
@[simp] theorem State.releaseRst_tryCrop : (s.releaseRst).tryCrop = s.tryCrop := rfl
@[simp] theorem State.releaseRst_tryFmt : (s.releaseRst).tryFmt = s.tryFmt := rfl
@[simp] theorem State.releaseRst_ctlAg : (s.releaseRst).ctlAg = s.ctlAg := rfl
@[simp] theorem State.releaseRst_ctlGain : (s.releaseRst).ctlGain = s.ctlGain := rfl
@[simp] theorem State.releaseRst_ctlAe : (s.releaseRst).ctlAe = s.ctlAe := rfl
@[simp] theorem State.releaseRst_ctlExp : (s.releaseRst).ctlExp = s.ctlExp := rfl
@[simp] theorem State.releaseRst_ctlTp : (s.releaseRst).ctlTp = s.ctlTp := rfl
@[simp] theorem State.releaseRst_fiDen : (s.releaseRst).fiDen = s.fiDen := rfl
@[simp] theorem State.releaseRst_cmd : (s.releaseRst).cmd = s.cmd := rfl
@[simp] theorem State.releaseRst_arg : (s.releaseRst).arg = s.arg := rfl
@[simp] theorem State.releaseRst_larg : (s.releaseRst).larg = s.larg := rfl
@[simp] theorem State.releaseRst_res : (s.releaseRst).res = s.res := rfl
@[simp] theorem State.releaseRst_busy : (s.releaseRst).busy = s.busy := rfl
@[simp] theorem State.releaseRst_result : (s.releaseRst).result = s.result := rfl
@[simp] theorem State.releaseRst_errInfo : (s.releaseRst).errInfo = s.errInfo := rfl
@[simp] theorem State.releaseRst_chipVer : (s.releaseRst).chipVer = s.chipVer := rfl
@[simp] theorem State.releaseRst_seq : (s.releaseRst).seq = s.seq := rfl
@[simp] theorem State.releaseRst_bus : (s.releaseRst).bus = s.bus := rfl
@[simp] theorem State.releaseRst_rst : (s.releaseRst).rst = false := rfl
@[simp] theorem State.releaseRst_inputs : (s.releaseRst).inputs = s.inputs := rfl
@[simp] theorem State.releaseRst_log : (s.releaseRst).log = s.log := rfl

end

/-! ### `State.issue` -/

section
variable (s : State) (t : Transaction)

@[simp] theorem State.issue_params : (s.issue t).params = s.params := by
  unfold State.issue; split <;> rfl
@[simp] theorem State.issue_failed : (s.issue t).failed = s.failed := by
  unfold State.issue; split <;> rfl
@[simp] theorem State.issue_detached : (s.issue t).detached = s.detached := by
  unfold State.issue; split <;> rfl
@[simp] theorem State.issue_absent : (s.issue t).absent = s.absent := by
  unfold State.issue; split <;> rfl
@[simp] theorem State.issue_clkEn : (s.issue t).clkEn = s.clkEn := by
  unfold State.issue; split <;> rfl
@[simp] theorem State.issue_powerCount : (s.issue t).powerCount = s.powerCount := by
  unfold State.issue; split <;> rfl
@[simp] theorem State.issue_stream : (s.issue t).stream = s.stream := by
  unfold State.issue; split <;> rfl
@[simp] theorem State.issue_shadowCc : (s.issue t).shadowCc = s.shadowCc := by
  unfold State.issue; split <;> rfl
@[simp] theorem State.issue_shadowAa : (s.issue t).shadowAa = s.shadowAa := by
  unfold State.issue; split <;> rfl
@[simp] theorem State.issue_actCrop : (s.issue t).actCrop = s.actCrop := by
  unfold State.issue; split <;> rfl
@[simp] theorem State.issue_actFmt : (s.issue t).actFmt = s.actFmt := by
  unfold State.issue; split <;> rfl
@[simp] theorem State.issue_tryCrop : (s.issue t).tryCrop = s.tryCrop := by
  unfold State.issue; split <;> rfl
@[simp] theorem State.issue_tryFmt : (s.issue t).tryFmt = s.tryFmt := by
  unfold State.issue; split <;> rfl
@[simp] theorem State.issue_ctlAg : (s.issue t).ctlAg = s.ctlAg := by
  unfold State.issue; split <;> rfl
@[simp] theorem State.issue_ctlGain : (s.issue t).ctlGain = s.ctlGain := by
  unfold State.issue; split <;> rfl
@[simp] theorem State.issue_ctlAe : (s.issue t).ctlAe = s.ctlAe := by
  unfold State.issue; split <;> rfl
@[simp] theorem State.issue_ctlExp : (s.issue t).ctlExp = s.ctlExp := by
  unfold State.issue; split <;> rfl
@[simp] theorem State.issue_ctlTp : (s.issue t).ctlTp = s.ctlTp := by
  unfold State.issue; split <;> rfl
@[simp] theorem State.issue_fiDen : (s.issue t).fiDen = s.fiDen := by
  unfold State.issue; split <;> rfl
@[simp] theorem State.issue_cmd : (s.issue t).cmd = s.cmd := by
  unfold State.issue; split <;> rfl
@[simp] theorem State.issue_arg : (s.issue t).arg = s.arg := by
  unfold State.issue; split <;> rfl
@[simp] theorem State.issue_larg : (s.issue t).larg = s.larg := by
  unfold State.issue; split <;> rfl
@[simp] theorem State.issue_res : (s.issue t).res = s.res := by
  unfold State.issue; split <;> rfl
@[simp] theorem State.issue_busy : (s.issue t).busy = s.busy := by
  unfold State.issue; split <;> rfl
@[simp] theorem State.issue_result : (s.issue t).result = s.result := by
  unfold State.issue; split <;> rfl
@[simp] theorem State.issue_errInfo : (s.issue t).errInfo = s.errInfo := by
  unfold State.issue; split <;> rfl
@[simp] theorem State.issue_chipVer : (s.issue t).chipVer = s.chipVer := by
  unfold State.issue; split <;> rfl
@[simp] theorem State.issue_seq : (s.issue t).seq = s.seq := by
  unfold State.issue; split <;> rfl
@[simp] theorem State.issue_rst : (s.issue t).rst = s.rst := by
  unfold State.issue; split <;> rfl
@[simp] theorem State.issue_inputs : (s.issue t).inputs = s.inputs := by
  unfold State.issue; split <;> rfl

end

/-! ### `State.shadowed` -/

section
variable (s : State) (t : Transaction)

@[simp] theorem State.shadowed_params : (s.shadowed t).params = s.params := by
  unfold State.shadowed; (repeat' split) <;> rfl
@[simp] theorem State.shadowed_failed : (s.shadowed t).failed = s.failed := by
  unfold State.shadowed; (repeat' split) <;> rfl
@[simp] theorem State.shadowed_detached : (s.shadowed t).detached = s.detached := by
  unfold State.shadowed; (repeat' split) <;> rfl
@[simp] theorem State.shadowed_absent : (s.shadowed t).absent = s.absent := by
  unfold State.shadowed; (repeat' split) <;> rfl
@[simp] theorem State.shadowed_clkEn : (s.shadowed t).clkEn = s.clkEn := by
  unfold State.shadowed; (repeat' split) <;> rfl
@[simp] theorem State.shadowed_powerCount : (s.shadowed t).powerCount = s.powerCount := by
  unfold State.shadowed; (repeat' split) <;> rfl
@[simp] theorem State.shadowed_stream : (s.shadowed t).stream = s.stream := by
  unfold State.shadowed; (repeat' split) <;> rfl
@[simp] theorem State.shadowed_actCrop : (s.shadowed t).actCrop = s.actCrop := by
  unfold State.shadowed; (repeat' split) <;> rfl
@[simp] theorem State.shadowed_actFmt : (s.shadowed t).actFmt = s.actFmt := by
  unfold State.shadowed; (repeat' split) <;> rfl
@[simp] theorem State.shadowed_tryCrop : (s.shadowed t).tryCrop = s.tryCrop := by
  unfold State.shadowed; (repeat' split) <;> rfl
@[simp] theorem State.shadowed_tryFmt : (s.shadowed t).tryFmt = s.tryFmt := by
  unfold State.shadowed; (repeat' split) <;> rfl
@[simp] theorem State.shadowed_ctlAg : (s.shadowed t).ctlAg = s.ctlAg := by
  unfold State.shadowed; (repeat' split) <;> rfl
@[simp] theorem State.shadowed_ctlGain : (s.shadowed t).ctlGain = s.ctlGain := by
  unfold State.shadowed; (repeat' split) <;> rfl
@[simp] theorem State.shadowed_ctlAe : (s.shadowed t).ctlAe = s.ctlAe := by
  unfold State.shadowed; (repeat' split) <;> rfl
@[simp] theorem State.shadowed_ctlExp : (s.shadowed t).ctlExp = s.ctlExp := by
  unfold State.shadowed; (repeat' split) <;> rfl
@[simp] theorem State.shadowed_ctlTp : (s.shadowed t).ctlTp = s.ctlTp := by
  unfold State.shadowed; (repeat' split) <;> rfl
@[simp] theorem State.shadowed_fiDen : (s.shadowed t).fiDen = s.fiDen := by
  unfold State.shadowed; (repeat' split) <;> rfl
@[simp] theorem State.shadowed_cmd : (s.shadowed t).cmd = s.cmd := by
  unfold State.shadowed; (repeat' split) <;> rfl
@[simp] theorem State.shadowed_arg : (s.shadowed t).arg = s.arg := by
  unfold State.shadowed; (repeat' split) <;> rfl
@[simp] theorem State.shadowed_larg : (s.shadowed t).larg = s.larg := by
  unfold State.shadowed; (repeat' split) <;> rfl
@[simp] theorem State.shadowed_res : (s.shadowed t).res = s.res := by
  unfold State.shadowed; (repeat' split) <;> rfl
@[simp] theorem State.shadowed_busy : (s.shadowed t).busy = s.busy := by
  unfold State.shadowed; (repeat' split) <;> rfl
@[simp] theorem State.shadowed_result : (s.shadowed t).result = s.result := by
  unfold State.shadowed; (repeat' split) <;> rfl
@[simp] theorem State.shadowed_errInfo : (s.shadowed t).errInfo = s.errInfo := by
  unfold State.shadowed; (repeat' split) <;> rfl
@[simp] theorem State.shadowed_chipVer : (s.shadowed t).chipVer = s.chipVer := by
  unfold State.shadowed; (repeat' split) <;> rfl
@[simp] theorem State.shadowed_seq : (s.shadowed t).seq = s.seq := by
  unfold State.shadowed; (repeat' split) <;> rfl
@[simp] theorem State.shadowed_bus : (s.shadowed t).bus = s.bus := by
  unfold State.shadowed; (repeat' split) <;> rfl
@[simp] theorem State.shadowed_rst : (s.shadowed t).rst = s.rst := by
  unfold State.shadowed; (repeat' split) <;> rfl
@[simp] theorem State.shadowed_inputs : (s.shadowed t).inputs = s.inputs := by
  unfold State.shadowed; (repeat' split) <;> rfl
@[simp] theorem State.shadowed_log : (s.shadowed t).log = s.log := by
  unfold State.shadowed; (repeat' split) <;> rfl

end

/-! ### `State.withCrop` -/

section
variable (s : State) (w : Target) (c : Crop)

@[simp] theorem State.withCrop_params : (s.withCrop w c).params = s.params := by
  cases w <;> rfl
@[simp] theorem State.withCrop_failed : (s.withCrop w c).failed = s.failed := by
  cases w <;> rfl
@[simp] theorem State.withCrop_detached : (s.withCrop w c).detached = s.detached := by
  cases w <;> rfl
@[simp] theorem State.withCrop_absent : (s.withCrop w c).absent = s.absent := by
  cases w <;> rfl
@[simp] theorem State.withCrop_clkEn : (s.withCrop w c).clkEn = s.clkEn := by
  cases w <;> rfl
@[simp] theorem State.withCrop_powerCount : (s.withCrop w c).powerCount = s.powerCount := by
  cases w <;> rfl
@[simp] theorem State.withCrop_stream : (s.withCrop w c).stream = s.stream := by
  cases w <;> rfl
@[simp] theorem State.withCrop_shadowCc : (s.withCrop w c).shadowCc = s.shadowCc := by
  cases w <;> rfl
@[simp] theorem State.withCrop_shadowAa : (s.withCrop w c).shadowAa = s.shadowAa := by
  cases w <;> rfl
@[simp] theorem State.withCrop_actFmt : (s.withCrop w c).actFmt = s.actFmt := by
  cases w <;> rfl
@[simp] theorem State.withCrop_tryFmt : (s.withCrop w c).tryFmt = s.tryFmt := by
  cases w <;> rfl
@[simp] theorem State.withCrop_ctlAg : (s.withCrop w c).ctlAg = s.ctlAg := by
  cases w <;> rfl
@[simp] theorem State.withCrop_ctlGain : (s.withCrop w c).ctlGain = s.ctlGain := by
  cases w <;> rfl
@[simp] theorem State.withCrop_ctlAe : (s.withCrop w c).ctlAe = s.ctlAe := by
  cases w <;> rfl
@[simp] theorem State.withCrop_ctlExp : (s.withCrop w c).ctlExp = s.ctlExp := by
  cases w <;> rfl
@[simp] theorem State.withCrop_ctlTp : (s.withCrop w c).ctlTp = s.ctlTp := by
  cases w <;> rfl
@[simp] theorem State.withCrop_fiDen : (s.withCrop w c).fiDen = s.fiDen := by
  cases w <;> rfl
@[simp] theorem State.withCrop_cmd : (s.withCrop w c).cmd = s.cmd := by
  cases w <;> rfl
@[simp] theorem State.withCrop_arg : (s.withCrop w c).arg = s.arg := by
  cases w <;> rfl
@[simp] theorem State.withCrop_larg : (s.withCrop w c).larg = s.larg := by
  cases w <;> rfl
@[simp] theorem State.withCrop_res : (s.withCrop w c).res = s.res := by
  cases w <;> rfl
@[simp] theorem State.withCrop_busy : (s.withCrop w c).busy = s.busy := by
  cases w <;> rfl
@[simp] theorem State.withCrop_result : (s.withCrop w c).result = s.result := by
  cases w <;> rfl
@[simp] theorem State.withCrop_errInfo : (s.withCrop w c).errInfo = s.errInfo := by
  cases w <;> rfl
@[simp] theorem State.withCrop_chipVer : (s.withCrop w c).chipVer = s.chipVer := by
  cases w <;> rfl
@[simp] theorem State.withCrop_seq : (s.withCrop w c).seq = s.seq := by
  cases w <;> rfl
@[simp] theorem State.withCrop_bus : (s.withCrop w c).bus = s.bus := by
  cases w <;> rfl
@[simp] theorem State.withCrop_rst : (s.withCrop w c).rst = s.rst := by
  cases w <;> rfl
@[simp] theorem State.withCrop_inputs : (s.withCrop w c).inputs = s.inputs := by
  cases w <;> rfl
@[simp] theorem State.withCrop_log : (s.withCrop w c).log = s.log := by
  cases w <;> rfl

end

/-! ### `State.withFmt` -/

section
variable (s : State) (w : Target) (f : Format)

@[simp] theorem State.withFmt_params : (s.withFmt w f).params = s.params := by
  cases w <;> rfl
@[simp] theorem State.withFmt_failed : (s.withFmt w f).failed = s.failed := by
  cases w <;> rfl
@[simp] theorem State.withFmt_detached : (s.withFmt w f).detached = s.detached := by
  cases w <;> rfl
@[simp] theorem State.withFmt_absent : (s.withFmt w f).absent = s.absent := by
  cases w <;> rfl
@[simp] theorem State.withFmt_clkEn : (s.withFmt w f).clkEn = s.clkEn := by
  cases w <;> rfl
@[simp] theorem State.withFmt_powerCount : (s.withFmt w f).powerCount = s.powerCount := by
  cases w <;> rfl
@[simp] theorem State.withFmt_stream : (s.withFmt w f).stream = s.stream := by
  cases w <;> rfl
@[simp] theorem State.withFmt_shadowCc : (s.withFmt w f).shadowCc = s.shadowCc := by
  cases w <;> rfl
@[simp] theorem State.withFmt_shadowAa : (s.withFmt w f).shadowAa = s.shadowAa := by
  cases w <;> rfl
@[simp] theorem State.withFmt_actCrop : (s.withFmt w f).actCrop = s.actCrop := by
  cases w <;> rfl
@[simp] theorem State.withFmt_tryCrop : (s.withFmt w f).tryCrop = s.tryCrop := by
  cases w <;> rfl
@[simp] theorem State.withFmt_ctlAg : (s.withFmt w f).ctlAg = s.ctlAg := by
  cases w <;> rfl
@[simp] theorem State.withFmt_ctlGain : (s.withFmt w f).ctlGain = s.ctlGain := by
  cases w <;> rfl
@[simp] theorem State.withFmt_ctlAe : (s.withFmt w f).ctlAe = s.ctlAe := by
  cases w <;> rfl
@[simp] theorem State.withFmt_ctlExp : (s.withFmt w f).ctlExp = s.ctlExp := by
  cases w <;> rfl
@[simp] theorem State.withFmt_ctlTp : (s.withFmt w f).ctlTp = s.ctlTp := by
  cases w <;> rfl
@[simp] theorem State.withFmt_fiDen : (s.withFmt w f).fiDen = s.fiDen := by
  cases w <;> rfl
@[simp] theorem State.withFmt_cmd : (s.withFmt w f).cmd = s.cmd := by
  cases w <;> rfl
@[simp] theorem State.withFmt_arg : (s.withFmt w f).arg = s.arg := by
  cases w <;> rfl
@[simp] theorem State.withFmt_larg : (s.withFmt w f).larg = s.larg := by
  cases w <;> rfl
@[simp] theorem State.withFmt_res : (s.withFmt w f).res = s.res := by
  cases w <;> rfl
@[simp] theorem State.withFmt_busy : (s.withFmt w f).busy = s.busy := by
  cases w <;> rfl
@[simp] theorem State.withFmt_result : (s.withFmt w f).result = s.result := by
  cases w <;> rfl
@[simp] theorem State.withFmt_errInfo : (s.withFmt w f).errInfo = s.errInfo := by
  cases w <;> rfl
@[simp] theorem State.withFmt_chipVer : (s.withFmt w f).chipVer = s.chipVer := by
  cases w <;> rfl
@[simp] theorem State.withFmt_seq : (s.withFmt w f).seq = s.seq := by
  cases w <;> rfl
@[simp] theorem State.withFmt_bus : (s.withFmt w f).bus = s.bus := by
  cases w <;> rfl
@[simp] theorem State.withFmt_rst : (s.withFmt w f).rst = s.rst := by
  cases w <;> rfl
@[simp] theorem State.withFmt_inputs : (s.withFmt w f).inputs = s.inputs := by
  cases w <;> rfl
@[simp] theorem State.withFmt_log : (s.withFmt w f).log = s.log := by
  cases w <;> rfl

end

/-! ### `State.installCrop` -/

section
variable (s : State) (w : Target) (c : Crop)

@[simp] theorem State.installCrop_params : (s.installCrop w c).params = s.params := by
  simp only [State.installCrop]; split <;> simp
@[simp] theorem State.installCrop_failed : (s.installCrop w c).failed = s.failed := by
  simp only [State.installCrop]; split <;> simp
@[simp] theorem State.installCrop_detached : (s.installCrop w c).detached = s.detached := by
  simp only [State.installCrop]; split <;> simp
@[simp] theorem State.installCrop_absent : (s.installCrop w c).absent = s.absent := by
  simp only [State.installCrop]; split <;> simp
@[simp] theorem State.installCrop_clkEn : (s.installCrop w c).clkEn = s.clkEn := by
  simp only [State.installCrop]; split <;> simp
@[simp] theorem State.installCrop_powerCount : (s.installCrop w c).powerCount = s.powerCount := by
  simp only [State.installCrop]; split <;> simp
@[simp] theorem State.installCrop_stream : (s.installCrop w c).stream = s.stream := by
  simp only [State.installCrop]; split <;> simp
@[simp] theorem State.installCrop_shadowCc : (s.installCrop w c).shadowCc = s.shadowCc := by
  simp only [State.installCrop]; split <;> simp
@[simp] theorem State.installCrop_shadowAa : (s.installCrop w c).shadowAa = s.shadowAa := by
  simp only [State.installCrop]; split <;> simp
@[simp] theorem State.installCrop_ctlAg : (s.installCrop w c).ctlAg = s.ctlAg := by
  simp only [State.installCrop]; split <;> simp
@[simp] theorem State.installCrop_ctlGain : (s.installCrop w c).ctlGain = s.ctlGain := by
  simp only [State.installCrop]; split <;> simp
@[simp] theorem State.installCrop_ctlAe : (s.installCrop w c).ctlAe = s.ctlAe := by
  simp only [State.installCrop]; split <;> simp
@[simp] theorem State.installCrop_ctlExp : (s.installCrop w c).ctlExp = s.ctlExp := by
  simp only [State.installCrop]; split <;> simp
@[simp] theorem State.installCrop_ctlTp : (s.installCrop w c).ctlTp = s.ctlTp := by
  simp only [State.installCrop]; split <;> simp
@[simp] theorem State.installCrop_fiDen : (s.installCrop w c).fiDen = s.fiDen := by
  simp only [State.installCrop]; split <;> simp
@[simp] theorem State.installCrop_cmd : (s.installCrop w c).cmd = s.cmd := by
  simp only [State.installCrop]; split <;> simp
@[simp] theorem State.installCrop_arg : (s.installCrop w c).arg = s.arg := by
  simp only [State.installCrop]; split <;> simp
@[simp] theorem State.installCrop_larg : (s.installCrop w c).larg = s.larg := by
  simp only [State.installCrop]; split <;> simp
@[simp] theorem State.installCrop_res : (s.installCrop w c).res = s.res := by
  simp only [State.installCrop]; split <;> simp
@[simp] theorem State.installCrop_busy : (s.installCrop w c).busy = s.busy := by
  simp only [State.installCrop]; split <;> simp
@[simp] theorem State.installCrop_result : (s.installCrop w c).result = s.result := by
  simp only [State.installCrop]; split <;> simp
@[simp] theorem State.installCrop_errInfo : (s.installCrop w c).errInfo = s.errInfo := by
  simp only [State.installCrop]; split <;> simp
@[simp] theorem State.installCrop_chipVer : (s.installCrop w c).chipVer = s.chipVer := by
  simp only [State.installCrop]; split <;> simp
@[simp] theorem State.installCrop_seq : (s.installCrop w c).seq = s.seq := by
  simp only [State.installCrop]; split <;> simp
@[simp] theorem State.installCrop_bus : (s.installCrop w c).bus = s.bus := by
  simp only [State.installCrop]; split <;> simp
@[simp] theorem State.installCrop_rst : (s.installCrop w c).rst = s.rst := by
  simp only [State.installCrop]; split <;> simp
@[simp] theorem State.installCrop_inputs : (s.installCrop w c).inputs = s.inputs := by
  simp only [State.installCrop]; split <;> simp
@[simp] theorem State.installCrop_log : (s.installCrop w c).log = s.log := by
  simp only [State.installCrop]; split <;> simp

end

/-! ### The fields those updates do write -/

@[simp] theorem State.issue_bus_none (s : State) (t : Transaction) (h : s.bus = none) : (s.issue t).bus = some t := by
  simp [State.issue, h]

@[simp] theorem State.issue_log_none (s : State) (t : Transaction) (h : s.bus = none) :
    (s.issue t).log = s.log ++ [.bus t] := by
  simp [State.issue, h]

theorem State.issue_of_bus (s : State) (t u : Transaction) (h : s.bus = some u) : s.issue t = s := by
  simp [State.issue, h]

@[simp] theorem State.crop_withCrop (s : State) (w : Target) (c : Crop) : (s.withCrop w c).crop w = c := by
  cases w <;> rfl

@[simp] theorem State.fmt_withFmt (s : State) (w : Target) (f : Format) : (s.withFmt w f).fmt w = f := by
  cases w <;> rfl

@[simp] theorem State.crop_withFmt (s : State) (w v : Target) (f : Format) : (s.withFmt w f).crop v = s.crop v := by
  cases w <;> cases v <;> rfl

@[simp] theorem State.fmt_withCrop (s : State) (w v : Target) (c : Crop) : (s.withCrop w c).fmt v = s.fmt v := by
  cases w <;> cases v <;> rfl

@[simp] theorem State.crop_installCrop (s : State) (w : Target) (c : Crop) : (s.installCrop w c).crop w = c := by
  simp [State.installCrop]

theorem State.fmt_installCrop (s : State) (w : Target) (c : Crop) :
    (s.installCrop w c).fmt w =
      if (c.width, c.height) ≠ ((s.crop w).width, (s.crop w).height) then ⟨c.width, c.height⟩ else s.fmt w := by
  unfold State.installCrop
  split <;> simp_all

end Sys2Proof.Machine
end

