-- ==== Sys2Proof/Laws/Ops.lean ====
section
/-! SUPPORT. What each shared operation can do, said once: the actions, the bus transaction, the runner, the host port
and the step. Proofs about commands cite these instead of unfolding the operations. -/

namespace Sys2Proof.Machine

/-! ### Actions -/

@[simp] theorem update_apply (f : State → State) (s : State) : update f s = .go 0 (f s) := rfl

theorem raiseIf_of_true {c : State → Bool} {s : State} (code : ResultCode) (h : c s = true) :
    raiseIf c code s = .halt (s.raise code) := by
  simp [raiseIf, h]

theorem raiseIf_of_false {c : State → Bool} {s : State} (code : ResultCode) (h : c s = false) :
    raiseIf c code s = .go 0 s := by
  simp [raiseIf, h]

theorem completeIf_of_true {c : State → Bool} {s : State} (h : c s = true) :
    completeIf c s = .halt (s.complete .ok) := by
  simp [completeIf, h]

theorem completeIf_of_false {c : State → Bool} {s : State} (h : c s = false) : completeIf c s = .go 0 s := by
  simp [completeIf, h]

theorem skipIf_of_true {c : State → Bool} {s : State} (n : Nat) (h : c s = true) : skipIf c n s = .go n s := by
  simp [skipIf, h]

theorem skipIf_of_false {c : State → Bool} {s : State} (n : Nat) (h : c s = false) : skipIf c n s = .go 0 s := by
  simp [skipIf, h]

@[simp] theorem completeWith_apply (f : State → State) (s : State) :
    completeWith f s = .halt ((f s).complete .ok) := rfl

@[simp] theorem completeOk_apply (s : State) : completeOk s = .halt (s.complete .ok) := rfl

theorem prologue_of_live {s : State} (h : s.Live) : prologue s = .go 0 s := by
  simp [prologue, raiseIf, h.1, h.2]

theorem prologue_of_dead {s : State} (h : s.failed = true ∨ s.detached = true) :
    prologue s = .halt (s.raise .resourceError) := by
  rcases h with h | h <;> simp [prologue, raiseIf, h]

theorem onlyIf_of_true {c : State → Bool} {s : State} (a : Action) (h : c s = true) : onlyIf c a s = a s := by
  simp [onlyIf, h]

theorem onlyIf_of_false {c : State → Bool} {s : State} (a : Action) (h : c s = false) :
    onlyIf c a s = .go 0 s := by
  simp [onlyIf, h]

/-! ### A bus transaction -/

/-- A transaction in flight is not issued again (R84, R90). -/
theorem issue_of_inFlight {s : State} {u : Transaction} (t : Transaction) (h : s.bus = some u) : s.issue t = s := by
  simp [State.issue, h]

theorem issue_of_idle {s : State} (t : Transaction) (h : s.bus = none) :
    s.issue t = { s with bus := some t, log := s.log ++ [.bus t] } := by
  simp [State.issue, h]

theorem transact_of_ack (t : State → Transaction) (onAck : Word → State → State) {s : State} {d : Word}
    {rest : List Input} (h : s.inputs = .reply (.ack d) :: rest) :
    transact t onAck s = .go 0 (onAck d (((s.issue (t s)).answered (.ack d) rest).shadowed (t s))) := by
  simp [transact, h]

theorem transact_of_error (t : State → Transaction) (onAck : Word → State → State) {s : State}
    {rest : List Input} (h : s.inputs = .reply .error :: rest) :
    transact t onAck s = .halt (((s.issue (t s)).answered .error rest).raiseBusError (t s)) := by
  simp [transact, h]

/-- No response is the next input, so the sequencer waits with the transaction in flight. -/
theorem transact_of_silence (t : State → Transaction) (onAck : Word → State → State) {s : State}
    (h : ∀ r rest, s.inputs ≠ .reply r :: rest) : transact t onAck s = .halt (s.issue (t s)) := by
  unfold transact
  simp only [State.issue_inputs]
  split
  · rename_i hi; exact absurd hi (h _ _)
  · rename_i hi; exact absurd hi (h _ _)
  · rfl

/-- Everything a transaction can do. -/
theorem transact_cases (t : State → Transaction) (onAck : Word → State → State) (s : State) :
    (∃ d rest, s.inputs = .reply (.ack d) :: rest ∧
      transact t onAck s = .go 0 (onAck d (((s.issue (t s)).answered (.ack d) rest).shadowed (t s)))) ∨
    (∃ rest, s.inputs = .reply .error :: rest ∧
      transact t onAck s = .halt (((s.issue (t s)).answered .error rest).raiseBusError (t s))) ∨
    ((∀ r rest, s.inputs ≠ .reply r :: rest) ∧ transact t onAck s = .halt (s.issue (t s))) := by
  by_cases h : ∃ r rest, s.inputs = .reply r :: rest
  · obtain ⟨r, rest, h⟩ := h
    cases r with
    | ack d => exact .inl ⟨d, rest, h, transact_of_ack t onAck h⟩
    | error => exact .inr (.inl ⟨rest, h, transact_of_error t onAck h⟩)
  · have h' : ∀ r rest, s.inputs ≠ .reply r :: rest := fun r rest e => h ⟨r, rest, e⟩
    exact .inr (.inr ⟨h', transact_of_silence t onAck h'⟩)

/-- An acknowledged write to CHIP_CONTROL loads SHADOW_CC (R92). -/
@[simp] theorem shadowed_chipControl (s : State) (dev : BitVec 7) (v : Word) :
    s.shadowed ⟨dev, regChipControl, .write v⟩ = { s with shadowCc := v } := rfl

/-- An acknowledged write to AEC_AGC_ENABLE loads SHADOW_AA (R92). -/
@[simp] theorem shadowed_aecAgcEnable (s : State) (dev : BitVec 7) (v : Word) :
    s.shadowed ⟨dev, regAecAgcEnable, .write v⟩ = { s with shadowAa := v } := rfl

/-- An acknowledged write to any other register leaves the shadows (R92). -/
theorem shadowed_other (s : State) (t : Transaction) (hc : t.register ≠ regChipControl)
    (ha : t.register ≠ regAecAgcEnable) : s.shadowed t = s := by
  unfold State.shadowed
  split
  · rfl
  · simp [hc, ha]

/-- A read leaves the shadows (R92). -/
@[simp] theorem shadowed_read (s : State) (dev : BitVec 7) (r : Byte) : s.shadowed ⟨dev, r, .read⟩ = s := rfl

/-! ### The runner -/

@[simp] theorem runActions_nil (n : Nat) (s : State) : runActions [] n s = s := by cases n <;> rfl

@[simp] theorem runActions_skip (a : Action) (as : List Action) (n : Nat) (s : State) :
    runActions (a :: as) (n + 1) s = runActions as n s := rfl

theorem runActions_of_go {a : Action} {s s' : State} {n : Nat} (as : List Action) (h : a s = .go n s') :
    runActions (a :: as) 0 s = runActions as n (s'.advance (n + 1)) := by
  simp [runActions, h]

theorem runActions_of_halt {a : Action} {s s' : State} (as : List Action) (h : a s = .halt s') :
    runActions (a :: as) 0 s = s' := by
  simp [runActions, h]

theorem seqStep_of_seq {s : State} {q : Seq} (h : s.seq = some q) : s.seqStep = q.step := by
  simp [State.seqStep, h]

/-- An action that, when the sequencer goes on, leaves SEQ and CMD to the runner. Every action of a script is one. -/
def Tame (a : Action) : Prop := ∀ s n s', a s = .go n s' → s'.seq = s.seq ∧ s'.cmd = s.cmd

theorem Tame.of_update {f : State → State} (h : ∀ s, (f s).seq = s.seq ∧ (f s).cmd = s.cmd) : Tame (update f) := by
  intro s n s' e
  simp only [update_apply, Progress.go.injEq] at e
  obtain ⟨-, rfl⟩ := e
  exact h s

theorem Tame.raiseIf (c : State → Bool) (code : ResultCode) : Tame (raiseIf c code) := by
  intro s n s' e
  unfold Machine.raiseIf at e
  split at e
  · cases e
  · cases e; exact ⟨rfl, rfl⟩

theorem Tame.completeIf (c : State → Bool) : Tame (completeIf c) := by
  intro s n s' e
  unfold Machine.completeIf at e
  split at e
  · cases e
  · cases e; exact ⟨rfl, rfl⟩

theorem Tame.skipIf (c : State → Bool) (n : Nat) : Tame (skipIf c n) := by
  intro s m s' e
  cases e
  exact ⟨rfl, rfl⟩

theorem Tame.completeWith (f : State → State) : Tame (completeWith f) := by
  intro s n s' e
  cases e

theorem Tame.of_transact {t : State → Transaction} {onAck : Word → State → State}
    (h : ∀ d s, (onAck d s).seq = s.seq ∧ (onAck d s).cmd = s.cmd) : Tame (transact t onAck) := by
  intro s n s' e
  rcases transact_cases t onAck s with ⟨d, rest, -, h'⟩ | ⟨rest, -, h'⟩ | ⟨-, h'⟩ <;> rw [h'] at e <;> cases e
  simp [h]

theorem Tame.onlyIf (c : State → Bool) {a : Action} (h : Tame a) : Tame (onlyIf c a) := by
  intro s n s' e
  unfold Machine.onlyIf at e
  split at e
  · exact h s n s' e
  · cases e; exact ⟨rfl, rfl⟩

/-- A property that each single action of a script of tame actions keeps, from any running state, is kept by the run of
the script. -/
theorem runScript_keeps (P : State → Prop) {script : List Action} (ht : ∀ a ∈ script, Tame a) {w : Word32}
    (hk : ∀ s, s.cmd = w → s.running = true → P s → P (runAction script s)) {s : State} (hw : s.cmd = w)
    (hr : s.running = true) (hp : P s) : P (runScript script s) := by
  suffices H : ∀ (rest before : List Action) (k : Nat) (s : State), before ++ rest = script →
      s.cmd = w → s.running = true → s.seqStep = before.length + k → P s → P (runActions rest k s) by
    exact H script [] s.seqStep s rfl hw hr (by simp) hp
  intro rest
  induction rest with
  | nil => intro before k s _ _ _ _ hp; simpa using hp
  | cons a as ih =>
    intro before k s hb hw hr hs hp
    cases k with
    | succ k =>
      rw [runActions_skip]
      exact ih (before ++ [a]) k s (by simpa using hb) hw hr (by simp; omega) hp
    | zero =>
      have hget : script[s.seqStep]? = some a := by rw [hs, ← hb]; simp
      have hstep := hk s hw hr hp
      unfold runAction at hstep
      rw [hget] at hstep
      cases hg : a s with
      | halt s' =>
        rw [runActions_of_halt as hg]
        simpa [hg] using hstep
      | go n s' =>
        rw [runActions_of_go as hg]
        simp only [hg] at hstep
        obtain ⟨hseq, hcmd⟩ := ht a (by rw [← hb]; simp) s n s' hg
        obtain ⟨q, hq⟩ := Option.isSome_iff_exists.mp hr
        refine ih (before ++ [a]) n _ (by simpa using hb) (by simp [hcmd, hw]) ?_ ?_ hstep
        · simp [State.running, hseq, hq]
        · have : q.step = before.length := by simpa [State.seqStep, hq] using hs
          simp [State.seqStep, hseq, hq]
          omega

/-! ### The scripts -/

theorem tame_memRead (r : Byte) {f : Word → State → State} (h : ∀ d s, (f d s).seq = s.seq ∧ (f d s).cmd = s.cmd) :
    Tame (memRead r f) := Tame.of_transact h

theorem tame_memWriteThen (r : State → Byte) (v : State → Word) {f : State → State}
    (h : ∀ s, (f s).seq = s.seq ∧ (f s).cmd = s.cmd) : Tame (memWriteThen r v f) :=
  Tame.of_transact (fun _ s => h s)

theorem tame_memWrite (r : Byte) (v : State → Word) : Tame (memWrite r v) :=
  tame_memWriteThen _ _ (fun _ => ⟨rfl, rfl⟩)

theorem tame_clockEnable : Tame clockEnable := Tame.of_update (fun _ => ⟨rfl, rfl⟩)
theorem tame_clockDisable : Tame clockDisable := Tame.of_update (fun _ => ⟨rfl, rfl⟩)
theorem tame_delay : Tame delay := Tame.of_update (fun _ => ⟨rfl, rfl⟩)
theorem tame_prologue : Tame prologue := Tame.raiseIf _ _
theorem tame_completeOk : Tame completeOk := Tame.completeWith _

theorem tame_controlScript (legal : State → Bool) (r : Byte) (v : State → Word) (cache : State → State)
    (h : ∀ s, (cache s).seq = s.seq ∧ (cache s).cmd = s.cmd) : ∀ a ∈ controlScript legal r v cache, Tame a := by
  simp only [controlScript, List.mem_cons, List.not_mem_nil, or_false, forall_eq_or_imp, forall_eq]
  exact ⟨tame_prologue, Tame.raiseIf _ _, Tame.onlyIf _ (tame_memWrite _ _), Tame.of_update h, tame_completeOk⟩

theorem tame_replay : ∀ a ∈ replay, Tame a := by
  simp only [replay, List.mem_cons, List.not_mem_nil, or_false, forall_eq_or_imp, forall_eq]
  exact ⟨tame_memWrite _ _, tame_memWrite _ _, tame_memWrite _ _, tame_memWrite _ _, tame_memWrite _ _⟩

theorem tame_physOn : ∀ a ∈ physOn, Tame a := by
  intro a ha
  rw [physOn, List.mem_append] at ha
  rcases ha with ha | ha
  · revert a
    simp only [List.mem_cons, List.not_mem_nil, or_false, forall_eq_or_imp, forall_eq]
    exact ⟨tame_clockEnable, tame_delay, tame_memRead _ (fun _ _ => ⟨rfl, rfl⟩), Tame.skipIf _ _, tame_clockDisable,
      Tame.of_update (fun _ => ⟨rfl, rfl⟩), Tame.raiseIf _ _, tame_memWrite _ _, tame_memWrite _ _,
      tame_memWriteThen _ _ (fun _ => ⟨rfl, rfl⟩), Tame.onlyIf _ (tame_memWriteThen _ _ (fun _ => ⟨rfl, rfl⟩)),
      tame_memWrite _ _⟩
  · exact tame_replay a ha

theorem tame_coldBranch : ∀ a ∈ coldBranch, Tame a := by
  intro a ha
  simp only [coldBranch, List.mem_append, List.mem_cons, List.not_mem_nil, or_false] at ha
  rcases ha with (rfl | ha) | rfl | rfl
  · exact Tame.raiseIf _ _
  · exact tame_physOn a ha
  · exact Tame.of_update (fun _ => ⟨rfl, rfl⟩)
  · exact tame_completeOk

theorem tame_releaseScript : ∀ a ∈ releaseScript, Tame a := by
  simp only [releaseScript, physOff, List.mem_append, List.mem_cons, List.not_mem_nil, or_false]
  rintro a (((rfl | rfl | rfl) | rfl) | rfl | rfl)
  · exact tame_prologue
  · exact Tame.raiseIf _ _
  · exact Tame.skipIf _ _
  · exact tame_clockDisable
  · exact Tame.of_update (fun _ => ⟨rfl, rfl⟩)
  · exact tame_completeOk

theorem tame_windowWrites : ∀ a ∈ windowWrites, Tame a := by
  simp only [windowWrites, List.mem_cons, List.not_mem_nil, or_false, forall_eq_or_imp, forall_eq]
  exact ⟨tame_memWrite _ _, tame_memWrite _ _, tame_memWrite _ _, tame_memWrite _ _, tame_memWrite _ _,
    tame_memWrite _ _⟩

/-- Every action of every script is tame. -/
theorem scriptOf_tame (i : Instr) : ∀ a ∈ scriptOf i, Tame a := by
  cases i <;> simp only [scriptOf]
  case powerUp =>
    simp only [powerUpScript, List.mem_append, List.mem_cons, List.not_mem_nil, or_false]
    rintro a (((rfl | rfl) | ha) | rfl | rfl | rfl)
    · exact tame_prologue
    · exact Tame.skipIf _ _
    · exact tame_coldBranch a ha
    · exact Tame.raiseIf _ _
    · exact Tame.of_update (fun _ => ⟨rfl, rfl⟩)
    · exact tame_completeOk
  case openSession =>
    simp only [openScript, List.mem_append, List.mem_cons, List.not_mem_nil, or_false]
    rintro a (((rfl | rfl | rfl | rfl) | ha) | rfl | rfl)
    · exact tame_prologue
    · exact Tame.raiseIf _ _
    · exact Tame.of_update (fun _ => ⟨rfl, rfl⟩)
    · exact Tame.skipIf _ _
    · exact tame_coldBranch a ha
    · exact Tame.of_update (fun _ => ⟨rfl, rfl⟩)
    · exact tame_completeOk
  case powerDown => exact tame_releaseScript
  case closeSession => exact tame_releaseScript
  case streamOn =>
    simp only [streamOnScript, List.mem_append, List.mem_cons, List.not_mem_nil, or_false]
    rintro a (((rfl | rfl | rfl | rfl) | ha) | rfl | rfl)
    · exact tame_prologue
    · exact Tame.raiseIf _ _
    · exact Tame.completeIf _
    · exact Tame.raiseIf _ _
    · exact tame_windowWrites a ha
    · exact tame_memWriteThen _ _ (fun _ => ⟨rfl, rfl⟩)
    · exact tame_completeOk
  case streamOff =>
    simp only [streamOffScript, List.mem_cons, List.not_mem_nil, or_false, forall_eq_or_imp, forall_eq]
    exact ⟨tame_prologue, Tame.completeIf _, Tame.raiseIf _ _, tame_memWriteThen _ _ (fun _ => ⟨rfl, rfl⟩),
      tame_completeOk⟩
  case teardown =>
    simp only [teardownScript, List.mem_cons, List.not_mem_nil, or_false, forall_eq_or_imp, forall_eq]
    exact ⟨tame_prologue, Tame.raiseIf _ _, tame_clockDisable, Tame.of_update (fun _ => ⟨rfl, rfl⟩), tame_completeOk⟩
  case setAutoGain => exact tame_controlScript _ _ _ _ (fun _ => ⟨rfl, rfl⟩)
  case setAnalogGain => exact tame_controlScript _ _ _ _ (fun _ => ⟨rfl, rfl⟩)
  case setAutoExposure => exact tame_controlScript _ _ _ _ (fun _ => ⟨rfl, rfl⟩)
  case setExposure => exact tame_controlScript _ _ _ _ (fun _ => ⟨rfl, rfl⟩)
  case setTestPattern => exact tame_controlScript _ _ _ _ (fun _ => ⟨rfl, rfl⟩)
  case setCrop w =>
    simp only [setCropScript, List.mem_cons, List.not_mem_nil, or_false, forall_eq_or_imp, forall_eq]
    exact ⟨tame_prologue, Tame.of_update (fun s => by simp), Tame.completeWith _⟩
  case setFormat w =>
    simp only [setFormatScript, List.mem_cons, List.not_mem_nil, or_false, forall_eq_or_imp, forall_eq]
    exact ⟨tame_prologue, Tame.of_update (fun s => by simp), Tame.completeWith _⟩
  case getCrop w =>
    simp only [getCropScript, List.mem_cons, List.not_mem_nil, or_false, forall_eq_or_imp, forall_eq]
    exact ⟨tame_prologue, Tame.completeWith _⟩
  case getFormat w =>
    simp only [getFormatScript, List.mem_cons, List.not_mem_nil, or_false, forall_eq_or_imp, forall_eq]
    exact ⟨tame_prologue, Tame.completeWith _⟩
  case enumCode =>
    simp only [enumCodeScript, List.mem_cons, List.not_mem_nil, or_false, forall_eq_or_imp, forall_eq]
    exact ⟨tame_prologue, Tame.raiseIf _ _, Tame.completeWith _⟩
  case enumSize =>
    simp only [enumSizeScript, List.mem_cons, List.not_mem_nil, or_false, forall_eq_or_imp, forall_eq]
    exact ⟨tame_prologue, Tame.raiseIf _ _, Tame.completeWith _⟩
  case setFrameInterval =>
    simp only [setFrameIntervalScript, List.mem_cons, List.not_mem_nil, or_false, forall_eq_or_imp, forall_eq]
    exact ⟨tame_prologue, Tame.raiseIf _ _, Tame.of_update (fun _ => ⟨rfl, rfl⟩), Tame.completeWith _⟩
  case getFrameInterval =>
    simp only [getFrameIntervalScript, List.mem_cons, List.not_mem_nil, or_false, forall_eq_or_imp, forall_eq]
    exact ⟨tame_prologue, Tame.completeWith _⟩

/-- A meaning runs its command's script. -/
theorem exec_eq_runScript (i : Instr) (s : State) : exec i s = .next (runScript (scriptOf i) s) := by
  cases i <;> rfl

/-! ### The host port -/

/-- Everything a host write can do: an accepted command, an ARG register, or nothing. -/
theorem hostWrite_cases (s : State) (offset : Byte) (v : Word32) :
    (s.rst = false ∧ s.busy = false ∧ s.hostWrite offset v = s.accept v) ∨
    (s.rst = false ∧ ∃ q, s.hostWrite offset v = { s with arg := q }) ∨ s.hostWrite offset v = s := by
  unfold State.hostWrite
  cases hr : s.rst
  · simp only [Bool.false_eq_true, if_false]
    split
    · cases hb : s.busy <;> simp
    · repeat' split
      all_goals first
        | exact .inr (.inl ⟨trivial, _, rfl⟩)
        | exact .inr (.inr rfl)
  · simp

/-! ### The step -/

/-- Everything a step can do, with the input that makes it do so. -/
theorem step_cases (s : State) :
    (s.inputs = [] ∧ step s = sequencerTurn s) ∨
    (∃ a rest, s.inputs = .access a :: rest ∧ step s = .next ({ s with inputs := rest }.hostAccess a)) ∨
    (∃ rest, s.inputs = .turn :: rest ∧ step s = sequencerTurn { s with inputs := rest }) ∨
    (∃ rest, s.inputs = .action :: rest ∧ step s = .next (sequencerAction { s with inputs := rest })) ∨
    (∃ r rest, s.inputs = .reply r :: rest ∧ s.running = true ∧ s.bus.isSome = true ∧ step s = sequencerTurn s) ∨
    (∃ r rest, s.inputs = .reply r :: rest ∧ (s.running = false ∨ s.bus = none) ∧
      step s = .next { s with inputs := rest }) ∨
    (∃ ok rest, s.inputs = .rstHigh ok :: rest ∧ step s = .next ({ s with inputs := rest }.assertRst ok)) ∨
    (∃ rest, s.inputs = .rstLow :: rest ∧ step s = .next { s with inputs := rest }.releaseRst) := by
  unfold step nextStep
  cases hi : s.inputs with
  | nil => simp
  | cons x rest =>
    cases x with
    | reply r =>
      by_cases hb : s.running = true ∧ s.bus.isSome = true
      · simp [busResponse, hb]
      · have : s.running = false ∨ s.bus = none := by
          cases hr : s.running
          · exact .inl rfl
          · refine .inr ?_
            cases hb' : s.bus with
            | none => rfl
            | some t => exact absurd ⟨hr, by simp [hb']⟩ hb
        have hf : (s.running && s.bus.isSome) = false := by
          rcases this with h | h <;> simp [h]
        simp [busResponse, hf, this]
    | _ => simp

/-- Everything a turn of the sequencer can do. -/
theorem sequencerTurn_cases (s : State) :
    (s.running = false ∧ sequencerTurn s = .next s) ∨
    (s.running = true ∧ ∃ why, decode s.cmd = .illegal why ∧ sequencerTurn s = .next (s.raise .illegalCommand)) ∨
    (s.running = true ∧ ∃ i, decode s.cmd = .command i ∧
      sequencerTurn s = .next (runScript (scriptOf i) s)) := by
  unfold sequencerTurn
  cases hr : s.running
  · simp
  · cases hd : decode s.cmd with
    | illegal why => simp
    | command i => simp [exec_eq_runScript]

/-- A property that every input keeps and every single action of the sequencer keeps is kept by every step. -/
theorem step_keeps (P : State → Prop) (hin : ∀ s l, P s → P { s with inputs := l })
    (hacc : ∀ s a, P s → P (s.hostAccess a)) (hrst : ∀ s ok, P s → P (s.assertRst ok))
    (hrel : ∀ s, P s → P s.releaseRst)
    (hill : ∀ s why, s.running = true → decode s.cmd = .illegal why → P s → P (s.raise .illegalCommand))
    (hact : ∀ s i, s.running = true → decode s.cmd = .command i → P s → P (runAction (scriptOf i) s))
    {s t : State} (hp : P s) (hs : step s = .next t) : P t := by
  have hturn : ∀ s t, P s → sequencerTurn s = .next t → P t := by
    intro s t hp hs
    rcases sequencerTurn_cases s with ⟨-, h⟩ | ⟨hr, why, hd, h⟩ | ⟨hr, i, hd, h⟩ <;> rw [h] at hs <;> cases hs
    · exact hp
    · exact hill s why hr hd hp
    · exact runScript_keeps P (scriptOf_tame i) (w := s.cmd)
        (fun s' hw hr' hp' => hact s' i hr' (by rw [hw, hd]) hp') rfl hr hp
  rcases step_cases s with ⟨-, h⟩ | ⟨a, rest, -, h⟩ | ⟨rest, -, h⟩ | ⟨rest, -, h⟩ | ⟨r, rest, -, -, -, h⟩ |
    ⟨r, rest, -, -, h⟩ | ⟨ok, rest, -, h⟩ | ⟨rest, -, h⟩ <;> rw [h] at hs
  · exact hturn _ _ hp hs
  · cases hs; exact hacc _ _ (hin _ _ hp)
  · exact hturn _ _ (hin _ _ hp) hs
  · cases hs
    unfold sequencerAction
    split
    · rename_i hr
      split
      · rename_i why hd; exact hill _ why hr hd (hin _ _ hp)
      · rename_i i hd; exact hact _ i hr hd (hin _ _ hp)
    · exact hin _ _ hp
  · exact hturn _ _ hp hs
  · cases hs; exact hin _ _ hp
  · cases hs; exact hrst _ _ (hin _ _ hp)
  · cases hs; exact hrel _ (hin _ _ hp)

/-! ### The record of outputs -/

theorem clockAfter_append (on : Bool) (a b : List Event) :
    clockAfter on (a ++ b) = clockAfter (clockAfter on a) b := by
  induction a generalizing on with
  | nil => rfl
  | cons e a ih => cases e <;> simp [clockAfter, ih]

theorem issuedClocked_append (on : Bool) (a b : List Event) :
    issuedClocked on (a ++ b) = (issuedClocked on a && issuedClocked (clockAfter on a) b) := by
  induction a generalizing on with
  | nil => rfl
  | cons e a ih => cases e <;> simp [issuedClocked, clockAfter, ih, Bool.and_assoc]

theorem unansweredAfter_append (p : Option Transaction) (a b : List Event) :
    unansweredAfter p (a ++ b) = unansweredAfter (unansweredAfter p a) b := by
  induction a generalizing p with
  | nil => rfl
  | cons e a ih => cases e <;> simp [unansweredAfter, ih]

theorem lastAcked_append (r : Byte) (atReset v : Word) (p : Option Transaction) (a b : List Event) :
    lastAcked r atReset v p (a ++ b) =
      lastAcked r atReset (lastAcked r atReset v p a) (unansweredAfter p a) b := by
  induction a generalizing v p with
  | nil => rfl
  | cons e a ih =>
    cases e with
    | answer x => cases x <;> simp [lastAcked, unansweredAfter, ih]
    | _ => simp [lastAcked, unansweredAfter, ih]

/-- Host reads change nothing of what is doubtful. -/
theorem doubtfulFrom_hostReads (p : Option (Byte × Word)) (reads : List (Byte × Word32)) (es : List Event) :
    doubtfulFrom p (reads.map (fun x => .hostRead x.1 x.2) ++ es) = doubtfulFrom p es := by
  induction reads with
  | nil => rfl
  | cons x reads ih => simpa [doubtfulFrom] using ih

theorem doubtfulFrom_append (p : Option (Byte × Word)) (t : Transaction) (a b : List Event) :
    doubtfulFrom p (a ++ .bus t :: b) = doubtfulFrom p (a ++ [.bus t]) ++ doubtfulFrom t.written b := by
  induction a generalizing p with
  | nil => simp [doubtfulFrom]
  | cons e a ih =>
    cases e with
    | answer x => cases x <;> simp [doubtfulFrom, ih]
    | _ => simp [doubtfulFrom, ih]

end Sys2Proof.Machine
end

