-- ==== Sys2Proof/Laws/PerInstr.lean ====
section
/-! SUPPORT. Facts about every instruction as syntax, one lemma per constructor. -/

namespace Sys2Proof.Laws.EncodesInFields

/-- The word of a command holds its opcode in bits 7:0, its target in bit 8 and zeros above (R110); the opcode map reads
the command back from those fields (R114); and W = 1 occurs only where it is admitted (R113). -/
def Statement (i : Instr) : Prop :=
  opcodeField (encode i) = opcodeOf i ∧ targetField (encode i) = targetBitOf i ∧ reservedField (encode i) = 0 ∧
  commandOf (opcodeOf i) (targetOf (targetBitOf i)) = some i ∧ (targetBitOf i = true → i.takesTarget = true)

theorem powerUp : Statement .powerUp := ⟨by decide, by decide, by decide, by decide, by decide⟩

theorem powerDown : Statement .powerDown := ⟨by decide, by decide, by decide, by decide, by decide⟩

theorem teardown : Statement .teardown := ⟨by decide, by decide, by decide, by decide, by decide⟩

theorem setCrop (w : Target) : Statement (.setCrop w) := by
  cases w <;> exact ⟨by decide, by decide, by decide, by decide, by decide⟩

theorem getCrop (w : Target) : Statement (.getCrop w) := by
  cases w <;> exact ⟨by decide, by decide, by decide, by decide, by decide⟩

theorem setFormat (w : Target) : Statement (.setFormat w) := by
  cases w <;> exact ⟨by decide, by decide, by decide, by decide, by decide⟩

theorem getFormat (w : Target) : Statement (.getFormat w) := by
  cases w <;> exact ⟨by decide, by decide, by decide, by decide, by decide⟩

theorem setAutoGain : Statement .setAutoGain := ⟨by decide, by decide, by decide, by decide, by decide⟩

theorem setAnalogGain : Statement .setAnalogGain := ⟨by decide, by decide, by decide, by decide, by decide⟩

theorem setAutoExposure : Statement .setAutoExposure := ⟨by decide, by decide, by decide, by decide, by decide⟩

theorem setExposure : Statement .setExposure := ⟨by decide, by decide, by decide, by decide, by decide⟩

theorem setTestPattern : Statement .setTestPattern := ⟨by decide, by decide, by decide, by decide, by decide⟩

theorem streamOn : Statement .streamOn := ⟨by decide, by decide, by decide, by decide, by decide⟩

theorem streamOff : Statement .streamOff := ⟨by decide, by decide, by decide, by decide, by decide⟩

theorem openSession : Statement .openSession := ⟨by decide, by decide, by decide, by decide, by decide⟩

theorem closeSession : Statement .closeSession := ⟨by decide, by decide, by decide, by decide, by decide⟩

theorem enumCode : Statement .enumCode := ⟨by decide, by decide, by decide, by decide, by decide⟩

theorem enumSize : Statement .enumSize := ⟨by decide, by decide, by decide, by decide, by decide⟩

theorem setFrameInterval : Statement .setFrameInterval := ⟨by decide, by decide, by decide, by decide, by decide⟩

theorem getFrameInterval : Statement .getFrameInterval := ⟨by decide, by decide, by decide, by decide, by decide⟩

end Sys2Proof.Laws.EncodesInFields
end

