-- ==== Sys2Proof/Tests/Slice0.lean ====
section
/-! SUPPORT. The author's own tests: every command word written out from the spec's encoding (R110, R120), the
well-formedness checks with terms they refuse, one or two single-step tests per command from the spec's vectors
(95_test_vectors.md) or rule examples, and for every statement with hypotheses a witness that meets them. -/

namespace Sys2Proof.Tests

open Sys2Proof Sys2Proof.Machine

/-! ### Decoding: RSVD (23 bits), W (1 bit), OPCODE (8 bits), each written out from R110 and the opcode map R114 -/

theorem test_word_powerUp : decode 0b00000000000000000000000_0_00000001#32 = .command .powerUp := by decide
theorem test_word_powerDown : decode 0b00000000000000000000000_0_00000010#32 = .command .powerDown := by decide
theorem test_word_teardown : decode 0b00000000000000000000000_0_00000011#32 = .command .teardown := by decide
theorem test_word_setCrop_active : decode 0b00000000000000000000000_0_00010000#32 = .command (.setCrop .active) := by decide
theorem test_word_setCrop_try : decode 0b00000000000000000000000_1_00010000#32 = .command (.setCrop .attempt) := by decide
theorem test_word_getCrop_active : decode 0b00000000000000000000000_0_00010001#32 = .command (.getCrop .active) := by decide
theorem test_word_getCrop_try : decode 0b00000000000000000000000_1_00010001#32 = .command (.getCrop .attempt) := by decide
theorem test_word_setFormat_active : decode 0b00000000000000000000000_0_00010010#32 = .command (.setFormat .active) := by decide
theorem test_word_setFormat_try : decode 0b00000000000000000000000_1_00010010#32 = .command (.setFormat .attempt) := by decide
theorem test_word_getFormat_active : decode 0b00000000000000000000000_0_00010011#32 = .command (.getFormat .active) := by decide
theorem test_word_getFormat_try : decode 0b00000000000000000000000_1_00010011#32 = .command (.getFormat .attempt) := by decide
theorem test_word_setAutoGain : decode 0b00000000000000000000000_0_00100000#32 = .command .setAutoGain := by decide
theorem test_word_setAnalogGain : decode 0b00000000000000000000000_0_00100001#32 = .command .setAnalogGain := by decide
theorem test_word_setAutoExposure : decode 0b00000000000000000000000_0_00100010#32 = .command .setAutoExposure := by decide
theorem test_word_setExposure : decode 0b00000000000000000000000_0_00100011#32 = .command .setExposure := by decide
theorem test_word_setTestPattern : decode 0b00000000000000000000000_0_00100100#32 = .command .setTestPattern := by decide
theorem test_word_streamOn : decode 0b00000000000000000000000_0_00110000#32 = .command .streamOn := by decide
theorem test_word_streamOff : decode 0b00000000000000000000000_0_00110001#32 = .command .streamOff := by decide
theorem test_word_open : decode 0b00000000000000000000000_0_01000000#32 = .command .openSession := by decide
theorem test_word_close : decode 0b00000000000000000000000_0_01000001#32 = .command .closeSession := by decide
theorem test_word_enumCode : decode 0b00000000000000000000000_0_01000010#32 = .command .enumCode := by decide
theorem test_word_enumSize : decode 0b00000000000000000000000_0_01000011#32 = .command .enumSize := by decide
theorem test_word_setFrameInterval : decode 0b00000000000000000000000_0_01000100#32 = .command .setFrameInterval := by decide
theorem test_word_getFrameInterval : decode 0b00000000000000000000000_0_01000101#32 = .command .getFrameInterval := by decide

/-- E1-4, E1-5: RSVD is checked first (R113). -/
theorem test_word_reserved : decode 0x00000200 = .illegal .reservedBits ∧ decode 0x80000010 = .illegal .reservedBits := by
  decide

/-- E1-1 to E1-3, E1-8: unassigned opcodes (R113). -/
theorem test_word_unassigned :
    decode 0x00000000 = .illegal .unassignedOpcode ∧ decode 0x00000104 = .illegal .unassignedOpcode ∧
    decode 0x00000014 = .illegal .unassignedOpcode ∧ decode 0x00000046 = .illegal .unassignedOpcode ∧
    decode 0x000001FF = .illegal .unassignedOpcode := by
  decide

/-- E1-6, E1-7: W = 1 where it is not admitted (R113). -/
theorem test_word_no_target :
    decode 0x00000101 = .illegal .targetNotAllowed ∧ decode 0x00000130 = .illegal .targetNotAllowed := by
  decide

/-- The table's bits are the word. -/
theorem test_table_word : decodeTableWord 32 0x113 = some (.getFormat .attempt) ∧ decodeTableWord 32 0x101 = none := by
  decide

/-! ### Well-formedness: a term each check refuses -/

/-- R118: an operand above 65535. -/
theorem test_operand_too_large : (AsmLine.mk .setExposure [65536]).operandsFit = false := by decide

/-- R118: more operands than the command reads. -/
theorem test_too_many_operands : (AsmLine.mk .setExposure [1, 2]).countFits = false := by decide

/-- R118: a legal line, with an operand missing. -/
theorem test_line_well_formed : (AsmLine.mk (.setCrop .active) [1, 5, 752]).wellFormed = true := by decide

/-- R9: `P_T_STAB` below 1 µs. -/
theorem test_delay_too_short : ({ defaultParams with tStabNs := 999 }).delayFits = false := by decide

/-- R9: `P_FI_RESET_DEN` outside 4..60, on either side. -/
theorem test_interval_out_of_range :
    ({ defaultParams with fiResetDen := 3 }).intervalFits = false ∧
    ({ defaultParams with fiResetDen := 61 }).intervalFits = false := by
  decide

theorem test_default_params_well_formed : defaultParams.wellFormed = true := by decide

/-! ### One step of each command -/

/-- `s` with the word `w` accepted, the operands `a` latched and the bus answering `rs`. -/
def given (s : State) (w : Word32) (a : Quad) (rs : List Reply) : State :=
  { s with arg := a, inputs := rs.map .reply }.present w

/-- The state one step later. -/
def after (s : State) (w : Word32) (a : Quad) (rs : List Reply) : State :=
  match step (given s w a rs) with
  | .next t => t
  | .fault _ => s
  | .refused _ => s

/-- The reset state with count 1 and the clock enabled. -/
def poweredState : State := { State.reset with powerCount := 1, clkEn := true }

/-- `poweredState`, streaming. -/
def streamingState : State := { poweredState with stream := true, shadowCc := 0x0188 }

/-- One acknowledge. -/
def ok1 : List Reply := [.ack 0]

/-- A transaction to the default device address (R9). -/
def wr (r : Byte) (v : Word) : Event := .bus ⟨0x48, r, .write v⟩

/-- L1-1 (scenario 1): the writes of a cold probe in order, and the STATUS word. -/
theorem test_powerUp :
    (after .reset 0x01 zeroQuad (.ack 0x1324 :: List.replicate 9 (.ack 0))).log.filter
        (fun e => match e with
          | .answer _ => false
          | _ => true) =
      [.clkOn, .delay 1000, .bus ⟨0x48, 0x00, .read⟩, wr 0x0C 1, wr 0x0C 0, wr 0x07 0, wr 0x70 0, wr 0xAF 3, wr 0x35 16,
       wr 0xAF 3, wr 0x0B 480, wr 0x7F 0] ∧
    (after .reset 0x01 zeroQuad (.ack 0x1324 :: List.replicate 9 (.ack 0))).status = 0x00010004 := by
  decide

/-- L1-2, L1-2b: the inverted pixel clock, at 0x74 for MT9V032 and 0x72 for MT9V034. -/
theorem test_powerUp_pixelClock :
    (after (.afterReset { defaultParams with pclkInv := true } true) 0x01 zeroQuad
      (.ack 0x1311 :: List.replicate 10 (.ack 0))).log[10]? = some (wr 0x74 0x0010) ∧
    (after (.afterReset { defaultParams with pclkInv := true, variant := .mt9v034 } true) 0x01 zeroQuad
      (.ack 0x1324 :: List.replicate 10 (.ack 0))).log[10]? = some (wr 0x72 0x0010) := by
  decide

/-- L1-6: the last release disables the clock. -/
theorem test_powerDown_last :
    (after poweredState 0x02 zeroQuad []).status = 0x00000000 ∧ (after poweredState 0x02 zeroQuad []).log = [.clkOff] := by
  decide

/-- L1-7: a release too many. -/
theorem test_powerDown_cold : (after .reset 0x02 zeroQuad []).status = 0x00000300 := by decide

/-- L1-14: TEARDOWN at count 0 with the clock enabled. -/
theorem test_teardown : (after { State.reset with clkEn := true } 0x03 zeroQuad []).status = 0x00000020 := by decide

/-- L1-16: TEARDOWN while powered. -/
theorem test_teardown_powered : (after poweredState 0x03 zeroQuad []).status = 0x00010304 := by decide

/-- G1-2: the largest request. -/
theorem test_setCrop_maxima :
    (after .reset 0x10 ⟨65535, 65535, 65535, 65535⟩ []).actCrop = ⟨751, 481, 30, 10⟩ ∧
    (after .reset 0x10 ⟨65535, 65535, 65535, 65535⟩ []).actFmt = ⟨30, 10⟩ := by
  decide

/-- G1-10: the try target, and the active one unchanged. -/
theorem test_setCrop_try :
    (after .reset 0x110 ⟨11, 21, 100, 50⟩ []).tryCrop = ⟨11, 21, 100, 50⟩ ∧
    (after .reset 0x110 ⟨11, 21, 100, 50⟩ []).actCrop = ⟨1, 5, 752, 480⟩ := by
  decide

/-- G1-11, G1-12: GET_CROP of the try target. -/
theorem test_getCrop_try :
    (after { State.reset with tryCrop := ⟨11, 21, 100, 50⟩ } 0x111 zeroQuad []).res = ⟨11, 21, 100, 50⟩ := by
  decide

/-- G2-3: halves round away from zero, and the extent is divided by the ratio. -/
theorem test_setFormat_rounds : (after .reset 0x12 ⟨301, 193, 0, 0⟩ []).res = ⟨250, 160, 0x300A, 0x0801⟩ := by decide

/-- G3-4: a small crop. -/
theorem test_setFormat_small_crop :
    (after { State.reset with actCrop := ⟨1, 5, 14, 14⟩ } 0x12 ⟨4, 4, 0, 0⟩ []).actFmt = ⟨3, 3⟩ := by
  decide

/-- G4-2: GET_FORMAT. -/
theorem test_getFormat : (after .reset 0x13 zeroQuad []).res = ⟨752, 480, 0x300A, 0x0801⟩ := by decide

/-- K1-1: bit 1 of 0xAF is cleared and the shadow follows. -/
theorem test_setAutoGain_off :
    (after poweredState 0x20 ⟨0, 0, 0, 0⟩ ok1).log = [wr 0xAF 0x0001, .answer (.ack 0)] ∧
    (after poweredState 0x20 ⟨0, 0, 0, 0⟩ ok1).shadowAa = 0x0001 := by
  decide

/-- K6-2: a write that fails leaves cache and shadow. -/
theorem test_setAutoGain_error :
    (after poweredState 0x20 ⟨0, 0, 0, 0⟩ [.error]).ctlAg = true ∧
    (after poweredState 0x20 ⟨0, 0, 0, 0⟩ [.error]).errInfo = 0x0AF := by
  decide

/-- K2-3: the largest gain. -/
theorem test_setAnalogGain_max :
    (after poweredState 0x21 ⟨64, 0, 0, 0⟩ ok1).log = [wr 0x35 0x0040, .answer (.ack 0)] ∧
    (after poweredState 0x21 ⟨64, 0, 0, 0⟩ ok1).ctlGain = 64 := by
  decide

/-- K2-4: one more is refused. -/
theorem test_setAnalogGain_above : (after poweredState 0x21 ⟨65, 0, 0, 0⟩ ok1).status = 0x00010404 := by decide

/-- K3-2: the AEC bit is the inverse of the operand. -/
theorem test_setAutoExposure_manual :
    (after poweredState 0x22 ⟨1, 0, 0, 0⟩ ok1).shadowAa = 0x0002 ∧
    (after poweredState 0x22 ⟨1, 0, 0, 0⟩ ok1).ctlAe = .manual := by
  decide

/-- K4-4: MT9V032's largest exposure is 32767. -/
theorem test_setExposure_above : (after poweredState 0x23 ⟨32768, 0, 0, 0⟩ ok1).result = .invalidArgument := by decide

/-- K4-5: MT9V034 allows 0. -/
theorem test_setExposure_zero :
    (after { poweredState with params := { defaultParams with variant := .mt9v034 } } 0x23 zeroQuad ok1).log =
      [wr 0x0B 0x0000, .answer (.ack 0)] := by
  decide

/-- K5-4 (scenario 5): pattern 3. -/
theorem test_setTestPattern_three :
    (after poweredState 0x24 ⟨3, 0, 0, 0⟩ ok1).log = [wr 0x7F 0x3800, .answer (.ack 0)] := by
  decide

/-- K5-6: the largest selector. -/
theorem test_setTestPattern_max :
    (after poweredState 0x24 ⟨1023, 0, 0, 0⟩ ok1).log = [wr 0x7F 0x67FF, .answer (.ack 0)] := by
  decide

/-- S3-1 (scenario 3): the writes of a stream start at 2 × 2 binning. -/
theorem test_streamOn_trace :
    (after { poweredState with actFmt := ⟨376, 240⟩ } 0x30 zeroQuad (List.replicate 7 (.ack 0))).log.filter
        (fun e => match e with
          | .answer _ => false
          | _ => true) =
      [wr 0x0D 5, wr 0x01 1, wr 0x02 5, wr 0x04 752, wr 0x03 480, wr 0x05 43, wr 0x07 0x0188] := by
  decide

/-- S2-6: the third write fails. -/
theorem test_streamOn_error :
    (after poweredState 0x30 zeroQuad [.ack 0, .ack 0, .error]).status = 0x00010104 ∧
    (after poweredState 0x30 zeroQuad [.ack 0, .ack 0, .error]).errInfo = 0x002 := by
  decide

/-- S2-3: the output is cleared. -/
theorem test_streamOff :
    (after streamingState 0x31 zeroQuad ok1).log = [wr 0x07 0x0000, .answer (.ack 0)] ∧
    (after streamingState 0x31 zeroQuad ok1).status = 0x00010004 := by
  decide

/-- S2-5: streaming without power. -/
theorem test_streamOff_cold :
    (after { streamingState with powerCount := 0, clkEn := false } 0x31 zeroQuad ok1).status = 0x00000302 := by
  decide

/-- F4-5: the try-state is reset before the chip is read. -/
theorem test_open_wrong_chip :
    (after { State.reset with tryCrop := ⟨11, 21, 100, 50⟩ } 0x40 zeroQuad [.ack 0]).tryCrop = ⟨1, 5, 752, 480⟩ ∧
    (after { State.reset with tryCrop := ⟨11, 21, 100, 50⟩ } 0x40 zeroQuad [.ack 0]).status = 0x00000208 := by
  decide

/-- F4-2: an instance that is already powered. -/
theorem test_open_again : (after poweredState 0x40 zeroQuad []).status = 0x00020004 := by decide

/-- F4-3: CLOSE at count 2. -/
theorem test_close : (after { poweredState with powerCount := 2 } 0x41 zeroQuad []).status = 0x00010004 := by decide

/-- F1-1: the one pixel code; the other RES registers stay. -/
theorem test_enumCode :
    (after { State.reset with res := ⟨1, 2, 3, 4⟩ } 0x42 zeroQuad []).res = ⟨0x300A, 2, 3, 4⟩ := by
  decide

/-- F2-3: the quotients are truncated. -/
theorem test_enumSize_three : (after .reset 0x43 ⟨3, 0, 0, 0⟩ []).res = ⟨250, 160, 0, 0⟩ := by decide

/-- F2-5: index 9. -/
theorem test_enumSize_nine : (after .reset 0x43 ⟨9, 0, 0, 0⟩ []).result = .invalidArgument := by decide

/-- F3-4: the largest denominator. -/
theorem test_setFrameInterval_max : (after .reset 0x44 ⟨1, 60, 0, 0⟩ []).fiDen = 60 := by decide

/-- F3-6: the fraction is not reduced. -/
theorem test_setFrameInterval_unreduced : (after .reset 0x44 ⟨2, 60, 0, 0⟩ []).result = .invalidArgument := by decide

/-- F3-1: the reset value. -/
theorem test_getFrameInterval : (after .reset 0x45 zeroQuad []).res = ⟨1, 30, 0, 0⟩ := by decide

/-- E2-1: with FAILED set a valid word gives RESOURCE_ERROR. -/
theorem test_failed : (after (.afterReset defaultParams false) 0x11 zeroQuad []).status = 0x00000510 := by decide

/-- E2-2: decoding comes before the resource check. -/
theorem test_failed_illegal : (after (.afterReset defaultParams false) 0x104 zeroQuad []).status = 0x00000610 := by
  decide

/-- P1, line 2: the host writes the word, then the sequencer starts and waits for the sensor. -/
theorem test_write_starts_command :
    (match step { State.reset with inputs := [.access (.write 0x00 0x01)] } with
      | .next t => step t
      | r => r) =
      .next { State.reset with
        cmd := 0x01, busy := true, seq := some ⟨0x01, 5⟩, clkEn := true, bus := some ⟨0x48, 0x00, .read⟩
        log := [.clkOn, .delay 1000, .bus ⟨0x48, 0x00, .read⟩] } := by
  rfl

/-- R86: the address bytes of the default device are 0x90 and 0x91. -/
theorem test_address_bytes : addressByte 0x48 false = 0x90 ∧ addressByte 0x48 true = 0x91 := by decide

/-- P2, line 1: what an assembly line writes (R118). -/
theorem test_line_writes :
    lineWrites ⟨.setCrop .active, [1, 5, 752, 480]⟩ =
      [.write 0x08 1, .write 0x0C 5, .write 0x10 752, .write 0x14 480, .write 0x00 0x10] := by
  decide

/-! ### Witnesses: for each statement with hypotheses, states and operands that meet them -/

/-- The reset state with command `i` accepted on operands `a` and the inputs `ins` to come. -/
def started (i : Instr) (a : Quad) (ins : List Input) : State :=
  { { State.reset with arg := a }.accept (encode i) with inputs := ins }

/-- `started`, at count 1 with the clock enabled. -/
def startedOn (i : Instr) (a : Quad) (ins : List Input) : State :=
  { started i a ins with powerCount := 1, clkEn := true }

/-- A first operand. -/
def arg0 (x : Word) : Quad := ⟨x, 0, 0, 0⟩

/-- An acknowledge to come. -/
def ackIn : List Input := [.reply (.ack 0)]

/-- An error to come. -/
def errIn : List Input := [.reply .error]

/-- Balanced requests, on buses that answer in different ways. -/
def issues : List PowerIssue :=
  [ ⟨.powerUp, 0x1311, List.replicate 10 0⟩, ⟨.openSession, 0x1313, List.replicate 12 7⟩,
    ⟨.powerDown, 0x1324, List.replicate 10 0⟩, ⟨.closeSession, 0x1311, List.replicate 10 0xFFFF⟩ ]

/-- STREAM_ON waiting for the answer to its first write. -/
def waiting (ins : List Input) : State :=
  { startedOn .streamOn zeroQuad ins with seq := some ⟨0x30, 4⟩, bus := some ⟨0x48, 0x0D, .write 0⟩ }

theorem test_witness_UndecodableWordsAreIllegal :
    (0x200#32).toNat / 512 ≠ 0 ∧ (0x04#32).toNat % 256 ∉ [0x01, 0x02, 0x03] ∧ (0x101#32).toNat / 256 % 2 = 1 ∧
    { State.reset.accept 0x200 with inputs := [.turn] }.running = true ∧
    { State.reset.accept 0x200 with inputs := [.turn] }.inputs = [.turn] ∧
    { State.reset.accept 0x200 with inputs := [.action] }.inputs = [.action] ∧ (State.reset.accept 0x101).inputs = [] ∧
    (State.reset.accept 0x101).running = true := by
  decide

theorem test_witness_StepRunsDecodedCommand :
    (started .powerUp zeroQuad []).running = true ∧ decode (started .powerUp zeroQuad []).cmd = .command .powerUp ∧
    (started .powerUp zeroQuad []).inputs = [] ∧ (started .powerUp zeroQuad [.turn]).inputs = [.turn] ∧
    (started .powerUp zeroQuad [.action]).inputs = [.action] ∧
    { started .powerUp zeroQuad ackIn with bus := some ⟨0x48, 0x00, .read⟩ }.bus.isSome = true := by
  decide

theorem test_witness_CmdWriteAcceptedOnlyWhenIdle :
    State.reset.rst = false ∧ State.reset.busy = false ∧ (startedOn .streamOff zeroQuad []).busy = true ∧
    (startedOn .streamOff zeroQuad []).rst = false ∧ (0x00#8).toNat / 4 = 0 ∧ (0x03#8).toNat / 4 = 0 ∧ (0x04#8).toNat / 4 ≠ 0 ∧
    { State.reset with inputs := [.access (.write 0x03 0x45)] }.inputs = [.access (.write 0x03 0x45)] := by
  decide

theorem test_witness_HostRegisterMap :
    State.reset.rst = false ∧ (0x04#8).toNat / 4 = 1 ∧ (0x08#8).toNat / 4 = 2 ∧ (0x17#8).toNat / 4 = 5 ∧
    (0x18#8).toNat / 4 = 6 ∧ (0x2F#8).toNat / 4 = 11 ∧ (0x30#8).toNat / 4 = 12 ∧ (0xFF#8).toNat / 4 = 63 ∧
    { State.reset with inputs := [.access (.read 0x2F)] }.inputs = [.access (.read 0x2F)] ∧
    { State.reset with inputs := [.access (.write 0x17 9)] }.inputs = [.access (.write 0x17 9)] := by
  decide

theorem test_witness_StatusWordLayout :
    { State.reset with inputs := [.access (.read 0x04)] }.inputs = [.access (.read 0x04)] := by
  decide

theorem test_witness_HostCannotDisturbRunningCommand :
    (startedOn .streamOn zeroQuad []).busy = true := by
  decide

theorem test_witness_ResetLoadsEveryElement :
    { startedOn .streamOn zeroQuad [.rstHigh false] with bus := some ⟨0x48, 0x0D, .write 0⟩ }.inputs = [.rstHigh false] ∧
    { State.reset with inputs := [.rstLow] }.inputs = [.rstLow] ∧
    { State.reset with inputs := ackIn }.inputs = [.reply (.ack 0)] ∧ State.reset.bus = none := by
  decide

theorem test_witness_RstHoldsOffTheHost :
    { State.reset.assertRst true with inputs := [.access (.write 0x00 1)] }.rst = true ∧ (0x07#8).toNat / 4 = 1 := by
  decide

theorem test_witness_TurnIsItsActions :
    (started .powerUp zeroQuad []).running = true ∧
    (runAction (scriptOf .powerUp) (started .powerUp zeroQuad [])).running = true ∧
    (runAction (scriptOf .powerUp) { started .powerUp zeroQuad [] with seq := some ⟨1, 5⟩ }).running = true := by
  decide

theorem test_witness_ResourceErrorRunsNothing :
    { started .streamOn zeroQuad [] with failed := true }.Ready ∧ { started .streamOn zeroQuad [] with detached := true }.Ready := by
  decide

theorem test_witness_TransactionOutcomes :
    (startedOn .streamOn zeroQuad ackIn).bus = none ∧ (startedOn .streamOn zeroQuad ackIn).inputs = [.reply (.ack 0)] ∧
    (startedOn .streamOn zeroQuad errIn).inputs = [.reply .error] ∧ (0x0D#8) ≠ 0x07 ∧ (0x0D#8) ≠ 0xAF ∧
    (waiting ackIn).bus = some ⟨(waiting ackIn).params.devAddr, 0x0D, .write 0⟩ ∧
    (waiting ackIn).inputs = [.reply (.ack 0)] ∧ (waiting errIn).inputs = [.reply .error] ∧
    { waiting ackIn with bus := some ⟨0x48, 0x00, .read⟩ }.bus = some ⟨(waiting ackIn).params.devAddr, 0x00, .read⟩ := by
  decide

theorem test_witness_TransactionOutcomes_waiting :
    ∀ x rest, (startedOn .streamOn zeroQuad []).inputs ≠ .reply x :: rest := by
  intro x rest h
  cases h

theorem test_witness_SetAutoGain :
    1 < (startedOn .setAutoGain (arg0 2) []).larg.r0.toNat ∧
    (startedOn .setAutoGain (arg0 1) []).larg.r0.toNat ≤ 1 ∧ (startedOn .setAutoGain (arg0 2) ackIn).Starts ∧
    (started .setAutoGain (arg0 0) []).Starts ∧ (started .setAutoGain (arg0 0) []).powerCount = 0 ∧
    (startedOn .setAutoGain (arg0 1) ackIn).Starts ∧ (startedOn .setAutoGain (arg0 1) ackIn).powerCount ≠ 0 ∧
    (startedOn .setAutoGain (arg0 1) ackIn).inputs = [.reply (.ack 0)] ∧
    (startedOn .setAutoGain (arg0 1) errIn).inputs = [.reply .error] := by
  decide

theorem test_witness_SetAnalogGain :
    (startedOn .setAnalogGain (arg0 15) []).larg.r0.toNat < 16 ∧
    64 < (startedOn .setAnalogGain (arg0 65) []).larg.r0.toNat ∧
    (startedOn .setAnalogGain (arg0 16) []).larg.r0.toNat = 16 ∧
    (startedOn .setAnalogGain (arg0 64) []).larg.r0.toNat = 64 ∧ (startedOn .setAnalogGain (arg0 15) ackIn).Starts ∧
    (startedOn .setAnalogGain (arg0 65) ackIn).Starts ∧ (started .setAnalogGain (arg0 16) []).Starts ∧
    (started .setAnalogGain (arg0 16) []).powerCount = 0 ∧ (startedOn .setAnalogGain (arg0 64) ackIn).Starts ∧
    (startedOn .setAnalogGain (arg0 64) ackIn).powerCount ≠ 0 ∧
    (startedOn .setAnalogGain (arg0 64) ackIn).inputs = [.reply (.ack 0)] ∧
    (startedOn .setAnalogGain (arg0 64) errIn).inputs = [.reply .error] := by
  decide

theorem test_witness_SetAutoExposure :
    1 < (startedOn .setAutoExposure (arg0 2) []).larg.r0.toNat ∧
    (startedOn .setAutoExposure (arg0 1) []).larg.r0.toNat ≤ 1 ∧
    (startedOn .setAutoExposure (arg0 2) ackIn).Starts ∧ (started .setAutoExposure (arg0 0) []).Starts ∧
    (started .setAutoExposure (arg0 0) []).powerCount = 0 ∧ (startedOn .setAutoExposure (arg0 1) ackIn).Starts ∧
    (startedOn .setAutoExposure (arg0 1) ackIn).powerCount ≠ 0 ∧
    (startedOn .setAutoExposure (arg0 1) ackIn).inputs = [.reply (.ack 0)] ∧
    (startedOn .setAutoExposure (arg0 1) errIn).inputs = [.reply .error] := by
  decide

theorem test_witness_SetExposure :
    (startedOn .setExposure (arg0 0) []).larg.r0.toNat < 1 ∧
    32767 < (startedOn .setExposure (arg0 32768) []).larg.r0.toNat ∧
    (startedOn .setExposure (arg0 1) []).larg.r0.toNat = 1 ∧
    (startedOn .setExposure (arg0 32767) []).larg.r0.toNat = 32767 ∧
    (startedOn .setExposure (arg0 1) []).params.variant = .mt9v032 ∧
    { startedOn .setExposure (arg0 32765) ackIn with params := { defaultParams with variant := .mt9v034 } }.Starts ∧
    (startedOn .setExposure (arg0 0) ackIn).Starts ∧ (startedOn .setExposure (arg0 32768) ackIn).Starts ∧
    (started .setExposure (arg0 1) []).Starts ∧ (started .setExposure (arg0 1) []).powerCount = 0 ∧
    (startedOn .setExposure (arg0 32767) ackIn).Starts ∧
    (startedOn .setExposure (arg0 32767) ackIn).powerCount ≠ 0 ∧
    (startedOn .setExposure (arg0 32767) ackIn).inputs = [.reply (.ack 0)] ∧
    (startedOn .setExposure (arg0 32767) errIn).inputs = [.reply .error] := by
  decide

theorem test_witness_SetTestPattern :
    1023 < (startedOn .setTestPattern (arg0 1024) []).larg.r0.toNat ∧
    (startedOn .setTestPattern (arg0 1023) []).larg.r0.toNat = 1023 ∧
    (startedOn .setTestPattern (arg0 1024) ackIn).Starts ∧ (started .setTestPattern (arg0 0) []).Starts ∧
    (started .setTestPattern (arg0 0) []).powerCount = 0 ∧ (startedOn .setTestPattern (arg0 1023) ackIn).Starts ∧
    (startedOn .setTestPattern (arg0 1023) ackIn).powerCount ≠ 0 ∧
    (startedOn .setTestPattern (arg0 1023) ackIn).inputs = [.reply (.ack 0)] ∧
    (startedOn .setTestPattern (arg0 1023) errIn).inputs = [.reply .error] := by
  decide

theorem test_witness_TestPatternValues :
    (0#16).toNat ≤ 1023 ∧ (3#16).toNat ≤ 1023 ∧ (4#16).toNat ≤ 1023 ∧ (1023#16).toNat ≤ 1023 := by
  decide

theorem test_witness_PowerUpFromCold :
    (physOnWrites (started .powerUp zeroQuad [])).length = 9 ∧
    (started .powerUp zeroQuad (.reply (.ack 0x1324) :: acks (List.replicate 9 0) ++ [.turn])).Starts ∧
    (started .powerUp zeroQuad []).powerCount = 0 ∧ (started .powerUp zeroQuad []).absent = false ∧
    (physOnWrites { started .powerUp zeroQuad [] with params := { defaultParams with pclkInv := true } }).length = 10 := by
  decide

theorem test_witness_OpenFromCold :
    (physOnWrites (started .openSession zeroQuad [])).length = 9 ∧
    (started .openSession zeroQuad (.reply (.ack 0x1324) :: acks (List.replicate 9 0) ++ [.turn])).Starts ∧
    (started .openSession zeroQuad []).powerCount = 0 ∧ (started .openSession zeroQuad []).absent = false ∧
    (physOnWrites { started .openSession zeroQuad [] with params := { defaultParams with pclkInv := true } }).length = 10 := by
  decide

theorem test_witness_PowerUpCountsOrRefuses :
    (startedOn .powerUp zeroQuad []).Starts ∧ (startedOn .powerUp zeroQuad []).powerCount ≠ 0 ∧
    (startedOn .powerUp zeroQuad []).powerCount ≠ 65535 ∧ { startedOn .powerUp zeroQuad [] with powerCount := 65535 }.Starts ∧
    { started .powerUp zeroQuad [] with absent := true }.Starts ∧ (started .powerUp zeroQuad []).powerCount = 0 := by
  decide

theorem test_witness_OpenCountsOrRefuses :
    (startedOn .openSession zeroQuad []).Starts ∧ (startedOn .openSession zeroQuad []).powerCount ≠ 0 ∧
    (startedOn .openSession zeroQuad []).powerCount ≠ 65535 ∧ { startedOn .openSession zeroQuad [] with powerCount := 65535 }.Starts ∧
    { started .openSession zeroQuad [] with absent := true }.Starts ∧ (started .openSession zeroQuad []).powerCount = 0 := by
  decide

theorem test_witness_IdentificationMismatch :
    (started .powerUp zeroQuad ackIn).Starts ∧ (started .powerUp zeroQuad ackIn).powerCount = 0 ∧
    (started .powerUp zeroQuad ackIn).absent = false ∧ (0#16) ∉ [(0x1311#16), 0x1313, 0x1324] ∧
    (0x1312#16) ∉ [(0x1311#16), 0x1313, 0x1324] ∧ (started .openSession zeroQuad ackIn).inputs = [.reply (.ack 0)] := by
  decide

theorem test_witness_PhysOnBusErrorKeepsClock :
    (started .powerUp zeroQuad errIn).Starts ∧ (started .openSession zeroQuad errIn).Starts ∧
    (started .powerUp zeroQuad errIn).powerCount = 0 ∧ (started .powerUp zeroQuad errIn).absent = false ∧
    physOnWrites (started .powerUp zeroQuad []) =
      [(0x0C, 1), (0x0C, 0)] ++ (0x07, 0) :: (physOnWrites (started .powerUp zeroQuad [])).drop 3 ∧
    physOnWrites (started .powerUp zeroQuad []) = (physOnWrites (started .powerUp zeroQuad [])).take 8 ++ (0x7F, 0) :: [] := by
  decide

theorem test_witness_PowerDownReleases :
    (started .powerDown zeroQuad []).Starts ∧ (started .powerDown zeroQuad []).powerCount = 0 ∧ (startedOn .powerDown zeroQuad []).Starts ∧
    (startedOn .powerDown zeroQuad []).powerCount = 1 ∧ { startedOn .powerDown zeroQuad [] with powerCount := 2 }.Starts ∧
    1 < { startedOn .powerDown zeroQuad [] with powerCount := 2 }.powerCount.toNat := by
  decide

theorem test_witness_CloseReleases :
    (started .closeSession zeroQuad []).Starts ∧ (started .closeSession zeroQuad []).powerCount = 0 ∧ (startedOn .closeSession zeroQuad []).Starts ∧
    (startedOn .closeSession zeroQuad []).powerCount = 1 ∧ { startedOn .closeSession zeroQuad [] with powerCount := 2 }.Starts ∧
    1 < { startedOn .closeSession zeroQuad [] with powerCount := 2 }.powerCount.toNat := by
  decide

theorem test_witness_TeardownDetaches :
    (started .teardown zeroQuad []).Starts ∧ (started .teardown zeroQuad []).powerCount = 0 ∧
    (startedOn .teardown zeroQuad []).Starts ∧ (startedOn .teardown zeroQuad []).powerCount ≠ 0 := by
  decide

theorem test_witness_ReferenceCounting :
    State.reset.Quiet ∧ State.reset.Live ∧ State.reset.absent = false ∧ State.reset.powerCount = 0 ∧
    State.reset.clkEn = false ∧ (∀ p ∈ issues, p.Healthy) ∧ balancedRequests (issues.map PowerIssue.request) := by
  refine ⟨by decide, by decide, by decide, by decide, by decide, by decide, ?_⟩
  intro n
  match n with
  | 0 => decide
  | 1 => decide
  | 2 => decide
  | 3 => decide
  | n + 4 =>
    rw [List.take_of_length_le (by simp [issues])]
    decide

theorem test_witness_SetCropInstallsClamped :
    (started (.setCrop .active) ⟨65535, 0, 752, 480⟩ []).Starts := by
  decide

theorem test_witness_SetCropClosedAndIdempotent :
    (started (.setCrop .attempt) ⟨65535, 0, 752, 480⟩ []).Starts := by
  decide

theorem test_witness_GetCropReports :
    (started (.getCrop .active) ⟨65535, 0, 752, 480⟩ []).Starts := by
  decide

theorem test_witness_SetFormatInstalls :
    (started (.setFormat .attempt) ⟨65535, 0, 752, 480⟩ []).Starts := by
  decide

theorem test_witness_GetFormatReports :
    (started (.getFormat .active) ⟨65535, 0, 752, 480⟩ []).Starts := by
  decide

theorem test_witness_GetFrameInterval :
    (started .getFrameInterval ⟨65535, 0, 752, 480⟩ []).Starts := by
  decide

theorem test_witness_RatioIsRoundedAndCapped :
    ((1 : Int) ≤ 1 ∧ (1 : Int) ≤ 752) ∧ ratio 752 300 < 8 ∧ ratio 752 100 = 8 ∧ ratio 752 101 < 8 := by
  decide

theorem test_witness_RecomputedRatioCrossesFourOnlyAtFourteen :
    ratio 14 (formatRequest 4 14) ≤ 4 ∧ 4 < ratio 14 (formatExtent 4 14) := by
  decide

theorem test_witness_GeometryAndEnumerationStayOffTheBus :
    (.enumSize : Instr) ∈ [Instr.enumCode, .enumSize] := by
  decide

theorem test_witness_StreamOnProgramsWindow :
    (startedOn .streamOn zeroQuad (acks (List.replicate 7 0) ++ [.turn])).Starts ∧
    (startedOn .streamOn zeroQuad []).powerCount ≠ 0 ∧ (startedOn .streamOn zeroQuad []).stream = false ∧
    (startedOn .streamOn zeroQuad []).hratio ≤ 4 ∧ (startedOn .streamOn zeroQuad []).vratio ≤ 4 ∧
    { startedOn .streamOn zeroQuad [] with actFmt := ⟨188, 120⟩ }.hratio = 4 ∧
    { startedOn .streamOn zeroQuad [] with params := { defaultParams with binPolicy := .mask }, actFmt := ⟨150, 96⟩ }.Starts := by
  decide

theorem test_witness_StreamOnRefusesOrRepeats :
    (started .streamOn zeroQuad []).Starts ∧ (started .streamOn zeroQuad []).powerCount = 0 ∧
    { startedOn .streamOn zeroQuad [] with stream := true }.Starts ∧ (startedOn .streamOn zeroQuad []).powerCount ≠ 0 ∧
    { startedOn .streamOn zeroQuad [] with actFmt := ⟨150, 480⟩ }.Starts ∧ 4 < ratio 752 150 ∧ 4 < ratio 480 96 ∧
    (startedOn .streamOn zeroQuad []).params.binPolicy = .reject := by
  decide

theorem test_witness_StreamOnBusErrorStaysIdle :
    (startedOn .streamOn zeroQuad errIn).Starts ∧ (startedOn .streamOn zeroQuad errIn).binningRejected = false ∧
    streamOnWrites (startedOn .streamOn zeroQuad errIn) =
      [] ++ (0x0D, 0) :: (streamOnWrites (startedOn .streamOn zeroQuad errIn)).drop 1 ∧
    streamOnWrites (startedOn .streamOn zeroQuad errIn) =
      (streamOnWrites (startedOn .streamOn zeroQuad errIn)).take 6 ++ (0x07, 0x0188) :: [] := by
  decide

theorem test_witness_StreamOffClearsOutput :
    (startedOn .streamOff zeroQuad []).Starts ∧ (startedOn .streamOff zeroQuad []).stream = false ∧
    { started .streamOff zeroQuad [] with stream := true }.Starts ∧ (started .streamOff zeroQuad []).powerCount = 0 ∧
    { startedOn .streamOff zeroQuad ackIn with stream := true }.Starts ∧
    { startedOn .streamOff zeroQuad errIn with stream := true }.inputs = [.reply .error] ∧
    (startedOn .streamOff zeroQuad ackIn).powerCount ≠ 0 := by
  decide

theorem test_witness_EnumCode :
    (started .enumCode (arg0 0) []).Starts ∧ (started .enumCode (arg0 1) []).Starts ∧
    (started .enumCode (arg0 0) []).larg.r0 = 0 ∧ (started .enumCode (arg0 1) []).larg.r0 ≠ 0 := by
  decide

theorem test_witness_EnumSize :
    (started .enumSize (arg0 0) []).Starts ∧ (started .enumSize (arg0 1) []).Starts ∧ (started .enumSize (arg0 8) []).Starts ∧
    (started .enumSize (arg0 9) []).Starts ∧ (started .enumSize (arg0 0) []).larg.r0.toNat < 1 ∧
    (started .enumSize (arg0 8) []).larg.r0 = 8 ∧ 8 < (started .enumSize (arg0 9) []).larg.r0.toNat := by
  decide

theorem test_witness_SetFrameInterval :
    (started .setFrameInterval ⟨1, 4, 0, 0⟩ []).Starts ∧ (started .setFrameInterval ⟨1, 60, 0, 0⟩ []).Starts ∧
    (started .setFrameInterval ⟨1, 4, 0, 0⟩ []).larg.r1.toNat = 4 ∧ (started .setFrameInterval ⟨1, 60, 0, 0⟩ []).larg.r1.toNat = 60 ∧
    (started .setFrameInterval ⟨1, 61, 0, 0⟩ []).Starts ∧ 60 < (started .setFrameInterval ⟨1, 61, 0, 0⟩ []).larg.r1.toNat ∧
    (started .setFrameInterval ⟨2, 60, 0, 0⟩ []).larg.r0 ≠ 1 := by
  decide

theorem test_witness_GeometryInvariantKept :
    ∃ t, (startedOn .streamOn zeroQuad []).GeometryInv ∧
    step (startedOn .streamOn zeroQuad []) = .next t := by
  exact ⟨_, by decide, rfl⟩

theorem test_witness_ShadowInvariantKept :
    ∃ t, (startedOn .streamOn zeroQuad []).ShadowInv ∧
    step (startedOn .streamOn zeroQuad []) = .next t := by
  exact ⟨_, by decide, rfl⟩

theorem test_witness_CacheInvariantKept :
    ∃ t, (startedOn .streamOn zeroQuad []).CacheInv ∧
    step (startedOn .streamOn zeroQuad []) = .next t := by
  exact ⟨_, by decide, rfl⟩

theorem test_witness_SequencerInvariantKept :
    ∃ t, (startedOn .streamOn zeroQuad []).SequencerInv ∧
    step (startedOn .streamOn zeroQuad []) = .next t := by
  exact ⟨_, by decide, rfl⟩

theorem test_witness_PowerInvariantKept :
    ∃ t, { startedOn .streamOn zeroQuad [] with log := [.clkOn] }.SequencerInv ∧ { startedOn .streamOn zeroQuad [] with log := [.clkOn] }.PowerInv ∧
    step { startedOn .streamOn zeroQuad [] with log := [.clkOn] } = .next t := by
  exact ⟨_, by decide, by decide, rfl⟩

theorem test_witness_ShadowsMirrorTheBus :
    ∃ t, (startedOn .streamOn zeroQuad []).SequencerInv ∧ (startedOn .streamOn zeroQuad []).MirrorInv ∧
    step (startedOn .streamOn zeroQuad []) = .next t := by
  exact ⟨_, by decide, by decide, rfl⟩

theorem test_witness_ResultsEachCommandProduces :
    ∃ t, (startedOn .streamOn zeroQuad []).Live ∧
    step (startedOn .streamOn zeroQuad []) = .next t := by
  exact ⟨_, by decide, rfl⟩

theorem test_witness_ResultsEachCommandProduces_ended :
    (startedOn .streamOn zeroQuad errIn).running = true ∧
    (match exec .streamOn (startedOn .streamOn zeroQuad errIn) with
      | .next t => !t.running && t.result == .busError
      | _ => false) = true := by
  decide

theorem test_witness_TeardownDetaches_after :
    { startedOn .streamOn zeroQuad [] with detached := true }.Ready ∧
    (match exec .teardown (started .teardown zeroQuad []) with
      | .next t => t.detached
      | _ => false) = true := by
  decide

theorem test_witness_RstHoldsOffTheHost_input :
    Input.turn ≠ .rstLow ∧ ∀ b, Input.turn ≠ .rstHigh b := by
  decide

theorem test_witness_LateAnswersResume :
    ∃ t, exec .streamOn { startedOn .streamOn zeroQuad [] with inputs := ackIn } = .next t ∧ t.running = true ∧
    t.inputs = [] := by
  exact ⟨_, rfl, by decide, by decide⟩

theorem test_witness_InvariantsHoldAfterReset :
    defaultParams.wellFormed = true ∧ { defaultParams with fiResetDen := 4 }.wellFormed = true ∧
    { defaultParams with fiResetDen := 60, variant := .mt9v034 }.wellFormed = true := by
  decide

end Sys2Proof.Tests
end

/-! PROOFS. The STATUS word bit by bit, and the step of a host access (R46, R47, R73, R76). -/

namespace Sys2Proof.Machine

/-! ### The STATUS word -/

theorem flagAt_getLsbD (n i : Nat) (b : Bool) :
    (flagAt n b).getLsbD i = (b && decide (i = n) && decide (i < 32)) := by
  cases b with
  | false => simp [flagAt]
  | true =>
    rw [Bool.eq_iff_iff]
    simp [flagAt]
    omega

/-- Every bit of STATUS at once: the flags, RESULT's bits from 8 up and POWER_COUNT's from 16 up. -/
theorem State.status_getLsbD (s : State) {i : Nat} (hi : i < 32) :
    s.status.getLsbD i =
      (s.busy && decide (i = 0) || s.stream && decide (i = 1) || s.clkEn && decide (i = 2) ||
        s.absent && decide (i = 3) || s.failed && decide (i = 4) || s.detached && decide (i = 5) ||
        !decide (i < 8) && (resultBits s.result).getLsbD (i - 8) ||
        !decide (i < 16) && s.powerCount.getLsbD (i - 16)) := by
  have h8 : i - 8 < 32 := by omega
  have h16 : i - 16 < 32 := by omega
  simp only [State.status, BitVec.getLsbD_or, BitVec.getLsbD_shiftLeft, BitVec.getLsbD_setWidth, flagAt_getLsbD, hi, h8,
    h16, decide_true, Bool.and_true, Bool.true_and]

theorem State.status_flags (s : State) :
    s.status.getLsbD 0 = s.busy ∧ s.status.getLsbD 1 = s.stream ∧ s.status.getLsbD 2 = s.clkEn ∧
    s.status.getLsbD 3 = s.absent ∧ s.status.getLsbD 4 = s.failed ∧ s.status.getLsbD 5 = s.detached := by
  refine ⟨?_, ?_, ?_, ?_, ?_, ?_⟩
  all_goals
    rw [s.status_getLsbD (by decide)]
    simp

/-- A field of STATUS above the flags holds what RESULT's and POWER_COUNT's bits put there. -/
theorem State.status_extract_of_above_flags (s : State) {start len : Nat} {v : BitVec len} (hlow : 6 ≤ start)
    (hhigh : start + len ≤ 32)
    (hv : ∀ i < len, (!decide (start + i < 8) && (resultBits s.result).getLsbD (start + i - 8) ||
      !decide (start + i < 16) && s.powerCount.getLsbD (start + i - 16)) = v.getLsbD i) :
    s.status.extractLsb' start len = v := by
  refine BitVec.eq_of_getLsbD_eq fun i hi => ?_
  have no_flag : ∀ k < 6, start + i ≠ k := by omega
  have not_busy : start ≠ 0 := by omega
  rw [BitVec.getLsbD_extractLsb', s.status_getLsbD (by omega), ← hv i hi]
  simp [hi, no_flag, not_busy]

theorem State.status_reserved_low (s : State) : s.status.extractLsb' 6 2 = 0 := by
  refine s.status_extract_of_above_flags (by decide) (by decide) fun i hi => ?_
  have below_result : 6 + i < 8 := by omega
  have below_count : 6 + i < 16 := by omega
  simp [below_result, below_count]

theorem State.status_result (s : State) : s.status.extractLsb' 8 4 = resultBits s.result := by
  refine s.status_extract_of_above_flags (by decide) (by decide) fun i hi => ?_
  have below_count : 8 + i < 16 := by omega
  simp [below_count]

theorem State.status_reserved_high (s : State) : s.status.extractLsb' 12 4 = 0 := by
  refine s.status_extract_of_above_flags (by decide) (by decide) fun i hi => ?_
  have above_result : 4 ≤ 12 + i - 8 := by omega
  have below_count : 12 + i < 16 := by omega
  simp [above_result, below_count]

theorem State.status_powerCount (s : State) : s.status.extractLsb' 16 16 = s.powerCount := by
  refine s.status_extract_of_above_flags (by decide) (by decide) fun i hi => ?_
  have above_result : 4 ≤ 16 + i - 8 := by omega
  simp [above_result]

/-! ### The step of a host access -/

theorem step_of_access {s : State} {a : Access} {rest : List Input} (h : s.inputs = .access a :: rest) :
    step s = .next ({ s with inputs := rest }.hostAccess a) := by
  simp [step, nextStep, h]

/-- A read at 0x04 records STATUS, in which the inputs still pending do not show, and does nothing else (R47, R76). -/
theorem step_of_read_status {s : State} {rest : List Input} (h : s.inputs = .access (.read 0x04) :: rest) :
    step s = .next { s with inputs := rest, log := s.log ++ [.hostRead 0x04 s.status] } := by
  rw [step_of_access h]
  rfl

/-! ### Settled obligations -/

/-- Settles O6: STATUS from its bits (`State.status_getLsbD`), field by field, and the read from the step of a host
access. -/
theorem statusWordLayout : Obligations.StatusWordLayout := by
  refine ⟨fun s => ?_, fun s rest => step_of_read_status⟩
  obtain ⟨busy, stream, clkEn, absent, failed, detached⟩ := s.status_flags
  refine ⟨busy, stream, clkEn, absent, failed, detached, s.status_reserved_low, ?_, s.status_reserved_high,
    s.status_powerCount⟩
  rw [s.status_result]
  cases s.result <;> rfl

end Sys2Proof.Machine

/-! PROOFS. The shadows mirror the bus (R92): what a single action of a command can do to the bus, said once, and
from it that every step keeps the sequencer's invariant and, with it, the mirror. -/

namespace Sys2Proof.Machine

/-! ### Changes off the bus -/

/-- An event that no transaction, answer or reset is. -/
def Event.offBus : Event → Bool
  | .bus _ | .answer _ | .rst => false
  | .clkOn | .clkOff | .delay _ | .hostRead _ _ => true

theorem unansweredAfter_offBus (p : Option Transaction) {es : List Event} (h : ∀ e ∈ es, e.offBus = true) :
    unansweredAfter p es = p := by
  induction es with
  | nil => rfl
  | cons e es ih =>
    obtain ⟨he, hes⟩ := List.forall_mem_cons.mp h
    cases e with
    | bus _ | answer _ | rst => cases he
    | clkOn | clkOff | delay _ | hostRead _ _ => exact ih hes

theorem lastAcked_offBus (r : Byte) (atReset v : Word) (p : Option Transaction) {es : List Event}
    (h : ∀ e ∈ es, e.offBus = true) : lastAcked r atReset v p es = v := by
  induction es with
  | nil => rfl
  | cons e es ih =>
    obtain ⟨he, hes⟩ := List.forall_mem_cons.mp h
    cases e with
    | bus _ | answer _ | rst => cases he
    | clkOn | clkOff | delay _ | hostRead _ _ => exact ih hes

/-- `t` differs from `s` neither in the sequencer's own elements nor in the shadows and the bus, and its record has
grown by events off the bus only. The fields fill in by themselves for an update of other elements. -/
structure OffBus (s t : State) : Prop where
  seq : t.seq = s.seq := by simp
  cmd : t.cmd = s.cmd := by simp
  busy : t.busy = s.busy := by simp
  rst : t.rst = s.rst := by simp
  bus : t.bus = s.bus := by simp
  shadowCc : t.shadowCc = s.shadowCc := by simp
  shadowAa : t.shadowAa = s.shadowAa := by simp
  log : ∃ es, t.log = s.log ++ es ∧ ∀ e ∈ es, e.offBus = true := by exact ⟨[], by simp, by simp⟩

theorem OffBus.emit (s : State) {e : Event} (h : e.offBus = true) : OffBus s (s.emit e) where
  log := ⟨[e], by simp [h]⟩

theorem OffBus.clockEnabled (s : State) : OffBus s ({ s with clkEn := true }.emit .clkOn) where
  log := ⟨[.clkOn], rfl, by simp [Event.offBus]⟩

theorem OffBus.clockDisabled (s : State) : OffBus s ({ s with clkEn := false }.emit .clkOff) where
  log := ⟨[.clkOff], rfl, by simp [Event.offBus]⟩

theorem OffBus.mirrorInv {s t : State} (h : OffBus s t) (hm : s.MirrorInv) : t.MirrorInv := by
  obtain ⟨hcc, haa, hbus⟩ := hm
  obtain ⟨es, hlog, hes⟩ := h.log
  refine ⟨?_, ?_, ?_⟩
  · rw [h.shadowCc, hlog, lastAcked_append, lastAcked_offBus _ _ _ _ hes, hcc]
  · rw [h.shadowAa, hlog, lastAcked_append, lastAcked_offBus _ _ _ _ hes, haa]
  · rw [h.bus, hlog, unansweredAfter_append, unansweredAfter_offBus _ hes, hbus]

/-! ### What an action asks of the bus -/

/-- `s` with other ARG registers, transaction in flight, inputs to come and record: what a host access and the bus can
change while an action waits. -/
def State.withTraffic (s : State) (q : Quad) (b : Option Transaction) (l : List Input) (es : List Event) : State :=
  { s with arg := q, bus := b, inputs := l, log := es }

section
variable (s : State) (q : Quad) (b : Option Transaction) (l : List Input) (es : List Event)

@[simp] theorem State.withTraffic_params : (s.withTraffic q b l es).params = s.params := rfl
@[simp] theorem State.withTraffic_cmd : (s.withTraffic q b l es).cmd = s.cmd := rfl
@[simp] theorem State.withTraffic_seqStep : (s.withTraffic q b l es).seqStep = s.seqStep := rfl

end

/-- `f` reads nothing that a host access or the bus can change while an action waits. -/
def Blind {α : Type} (f : State → α) : Prop := ∀ s q b l es, f (State.withTraffic s q b l es) = f s

/-- What an action that issues no transaction leads to: a change off the bus, after which the sequencer goes on or the
command completes. -/
def Silent (s : State) : Progress → Prop
  | .go _ t => OffBus s t
  | .halt t => ∃ u c, OffBus s u ∧ t = u.complete c

/-- `req` is the transaction that action `a` issues in each state, if it issues one there. -/
structure Requests (a : Action) (req : State → Option Transaction) : Prop where
  blind : Blind req
  silent : ∀ s, req s = none → Silent s (a s)
  asks : ∀ s t, req s = some t → ∃ onAck : Word → State → State,
    (∀ d u, OffBus u (onAck d u)) ∧ a s = transact (fun _ => t) onAck s

/-- The transaction that an action issues is settled by what no host access and no answer changes. -/
def Disciplined (a : Action) : Prop := ∃ req, Requests a req

theorem Disciplined.of_silent {a : Action} (h : ∀ s, Silent s (a s)) : Disciplined a :=
  ⟨fun _ => none, fun _ _ _ _ _ => rfl, fun s _ => h s, fun _ _ e => nomatch e⟩

theorem Disciplined.of_transact {t : State → Transaction} {onAck : Word → State → State} (ht : Blind t)
    (h : ∀ d u, OffBus u (onAck d u)) : Disciplined (transact t onAck) := by
  refine ⟨fun s => some (t s), fun s q b l es => congrArg some (ht s q b l es), fun _ e => (nomatch e),
    fun s u e => ?_⟩
  obtain rfl : t s = u := Option.some.inj e
  exact ⟨onAck, h, rfl⟩

theorem Disciplined.onlyIf {c : State → Bool} {a : Action} (hc : Blind c) (ha : Disciplined a) :
    Disciplined (onlyIf c a) := by
  obtain ⟨req, hblind, hsilent, hasks⟩ := ha
  refine ⟨fun s => if c s then req s else none, fun s q b l es => ?_, fun s e => ?_, fun s t e => ?_⟩
  · simp only [hc s q b l es, hblind s q b l es]
  · cases h : c s
    · rw [onlyIf_of_false a h]; exact {}
    · rw [onlyIf_of_true a h]; exact hsilent s (by simpa [h] using e)
  · cases h : c s
    · simp [h] at e
    · rw [onlyIf_of_true a h]; exact hasks s t (by simpa [h] using e)

theorem disciplined_update {f : State → State} (h : ∀ s, OffBus s (f s)) : Disciplined (update f) :=
  .of_silent h

theorem disciplined_completeWith {f : State → State} (h : ∀ s, OffBus s (f s)) : Disciplined (completeWith f) :=
  .of_silent fun s => ⟨f s, .ok, h s, rfl⟩

theorem disciplined_completeOk : Disciplined completeOk := disciplined_completeWith fun _ => {}

theorem disciplined_raiseIf (c : State → Bool) (code : ResultCode) : Disciplined (raiseIf c code) := by
  refine .of_silent fun s => ?_
  cases h : c s
  · rw [raiseIf_of_false code h]; exact {}
  · rw [raiseIf_of_true code h]; exact ⟨s, code, {}, rfl⟩

theorem disciplined_completeIf (c : State → Bool) : Disciplined (completeIf c) := by
  refine .of_silent fun s => ?_
  cases h : c s
  · rw [completeIf_of_false h]; exact {}
  · rw [completeIf_of_true h]; exact ⟨s, .ok, {}, rfl⟩

theorem disciplined_skipIf (c : State → Bool) (n : Nat) : Disciplined (skipIf c n) :=
  .of_silent fun s => ({} : OffBus s s)

theorem disciplined_prologue : Disciplined prologue := disciplined_raiseIf _ _
theorem disciplined_clockEnable : Disciplined clockEnable := disciplined_update OffBus.clockEnabled
theorem disciplined_clockDisable : Disciplined clockDisable := disciplined_update OffBus.clockDisabled
theorem disciplined_delay : Disciplined delay := disciplined_update fun s => .emit s rfl

theorem disciplined_memRead (r : Byte) {onAck : Word → State → State} (h : ∀ d u, OffBus u (onAck d u)) :
    Disciplined (memRead r onAck) :=
  .of_transact (fun _ _ _ _ _ => rfl) h

theorem disciplined_memWriteThen {r : State → Byte} {v : State → Word} {after : State → State} (hr : Blind r)
    (hv : Blind v) (h : ∀ u, OffBus u (after u)) : Disciplined (memWriteThen r v after) :=
  .of_transact (fun s q b l es => by simp only [hr s q b l es, hv s q b l es, State.withTraffic_params]) fun _ => h

theorem disciplined_memWrite (r : Byte) {v : State → Word} (hv : Blind v) : Disciplined (memWrite r v) :=
  disciplined_memWriteThen (fun _ _ _ _ _ => rfl) hv fun _ => {}

/-! ### The scripts -/

theorem disciplined_controlScript (legal : State → Bool) (r : Byte) {v : State → Word} {cache : State → State}
    (hv : Blind v) (hc : ∀ s, OffBus s (cache s)) : ∀ a ∈ controlScript legal r v cache, Disciplined a := by
  simp only [controlScript, List.mem_cons, List.not_mem_nil, or_false, forall_eq_or_imp, forall_eq]
  exact ⟨disciplined_prologue, disciplined_raiseIf _ _, .onlyIf (fun _ _ _ _ _ => rfl) (disciplined_memWrite _ hv),
    disciplined_update hc, disciplined_completeOk⟩

theorem disciplined_replay : ∀ a ∈ replay, Disciplined a := by
  simp only [replay, List.mem_cons, List.not_mem_nil, or_false, forall_eq_or_imp, forall_eq]
  refine ⟨?_, ?_, ?_, ?_, ?_⟩
  all_goals exact disciplined_memWrite _ fun _ _ _ _ _ => rfl

theorem disciplined_windowWrites : ∀ a ∈ windowWrites, Disciplined a := by
  simp only [windowWrites, List.mem_cons, List.not_mem_nil, or_false, forall_eq_or_imp, forall_eq]
  refine ⟨?_, ?_, ?_, ?_, ?_, ?_⟩
  all_goals exact disciplined_memWrite _ fun _ _ _ _ _ => rfl

theorem disciplined_physOn : ∀ a ∈ physOn, Disciplined a := by
  refine List.forall_mem_append.mpr ⟨?_, disciplined_replay⟩
  simp only [List.mem_cons, List.not_mem_nil, or_false, forall_eq_or_imp, forall_eq]
  have blind_const {α : Type} (x : α) : Blind (fun _ => x) := fun _ _ _ _ _ => rfl
  exact ⟨disciplined_clockEnable, disciplined_delay, disciplined_memRead _ fun _ _ => {}, disciplined_skipIf _ _,
    disciplined_clockDisable, disciplined_update fun _ => {}, disciplined_raiseIf _ _,
    disciplined_memWrite _ (blind_const _), disciplined_memWrite _ (blind_const _),
    disciplined_memWriteThen (blind_const _) (blind_const _) fun _ => {},
    .onlyIf (fun _ _ _ _ _ => rfl)
      (disciplined_memWriteThen (fun _ _ _ _ _ => rfl) (fun _ _ _ _ _ => rfl) fun _ => {}),
    disciplined_memWrite _ (blind_const _)⟩

theorem disciplined_coldBranch : ∀ a ∈ coldBranch, Disciplined a := by
  simp only [coldBranch, List.forall_mem_append, List.mem_cons, List.not_mem_nil, or_false, forall_eq_or_imp, forall_eq]
  exact ⟨⟨disciplined_raiseIf _ _, disciplined_physOn⟩, disciplined_update fun _ => {}, disciplined_completeOk⟩

theorem disciplined_releaseScript : ∀ a ∈ releaseScript, Disciplined a := by
  simp only [releaseScript, physOff, List.forall_mem_append, List.mem_cons, List.not_mem_nil, or_false,
    forall_eq_or_imp, forall_eq]
  exact ⟨⟨⟨disciplined_prologue, disciplined_raiseIf _ _, disciplined_skipIf _ _⟩, disciplined_clockDisable⟩,
    disciplined_update fun _ => {}, disciplined_completeOk⟩

/-- Every action of every script is disciplined. -/
theorem scriptOf_disciplined (i : Instr) : ∀ a ∈ scriptOf i, Disciplined a := by
  cases i
  case powerDown => exact disciplined_releaseScript
  case closeSession => exact disciplined_releaseScript
  case setAutoGain => exact disciplined_controlScript _ _ (fun _ _ _ _ _ => rfl) fun _ => {}
  case setAnalogGain => exact disciplined_controlScript _ _ (fun _ _ _ _ _ => rfl) fun _ => {}
  case setAutoExposure => exact disciplined_controlScript _ _ (fun _ _ _ _ _ => rfl) fun _ => {}
  case setExposure => exact disciplined_controlScript _ _ (fun _ _ _ _ _ => rfl) fun _ => {}
  case setTestPattern => exact disciplined_controlScript _ _ (fun _ _ _ _ _ => rfl) fun _ => {}
  all_goals
    simp only [scriptOf, powerUpScript, openScript, streamOnScript, streamOffScript, teardownScript, setCropScript,
      setFormatScript, getCropScript, getFormatScript, enumCodeScript, enumSizeScript, setFrameIntervalScript,
      getFrameIntervalScript, List.forall_mem_append, List.mem_cons, List.not_mem_nil, or_false, forall_eq_or_imp,
      forall_eq]
  case powerUp =>
    exact ⟨⟨⟨disciplined_prologue, disciplined_skipIf _ _⟩, disciplined_coldBranch⟩, disciplined_raiseIf _ _,
      disciplined_update fun _ => {}, disciplined_completeOk⟩
  case openSession =>
    exact ⟨⟨⟨disciplined_prologue, disciplined_raiseIf _ _, disciplined_update fun _ => {}, disciplined_skipIf _ _⟩,
      disciplined_coldBranch⟩, disciplined_update fun _ => {}, disciplined_completeOk⟩
  case streamOn =>
    exact ⟨⟨⟨disciplined_prologue, disciplined_raiseIf _ _, disciplined_completeIf _, disciplined_raiseIf _ _⟩,
      disciplined_windowWrites⟩,
      disciplined_memWriteThen (fun _ _ _ _ _ => rfl) (fun _ _ _ _ _ => rfl) fun _ => {}, disciplined_completeOk⟩
  case streamOff =>
    exact ⟨disciplined_prologue, disciplined_completeIf _, disciplined_raiseIf _ _,
      disciplined_memWriteThen (fun _ _ _ _ _ => rfl) (fun _ _ _ _ _ => rfl) fun _ => {}, disciplined_completeOk⟩
  case teardown =>
    exact ⟨disciplined_prologue, disciplined_raiseIf _ _, disciplined_clockDisable, disciplined_update fun _ => {},
      disciplined_completeOk⟩
  case setCrop w =>
    exact ⟨disciplined_prologue, disciplined_update fun _ => {}, disciplined_completeWith fun _ => {}⟩
  case setFormat w =>
    exact ⟨disciplined_prologue, disciplined_update fun _ => {}, disciplined_completeWith fun _ => {}⟩
  case getCrop w => exact ⟨disciplined_prologue, disciplined_completeWith fun _ => {}⟩
  case getFormat w => exact ⟨disciplined_prologue, disciplined_completeWith fun _ => {}⟩
  case getFrameInterval => exact ⟨disciplined_prologue, disciplined_completeWith fun _ => {}⟩
  case enumCode => exact ⟨disciplined_prologue, disciplined_raiseIf _ _, disciplined_completeWith fun _ => {}⟩
  case enumSize => exact ⟨disciplined_prologue, disciplined_raiseIf _ _, disciplined_completeWith fun _ => {}⟩
  case setFrameInterval =>
    exact ⟨disciplined_prologue, disciplined_raiseIf _ _, disciplined_update fun _ => {},
      disciplined_completeWith fun _ => {}⟩

/-! ### The transaction of the next action -/

theorem runAction_of_none {script : List Action} {s : State} (h : script[s.seqStep]? = none) :
    runAction script s = s := by
  simp [runAction, h]

theorem runAction_of_go {script : List Action} {s t : State} {a : Action} {n : Nat} (h : script[s.seqStep]? = some a)
    (hg : a s = .go n t) : runAction script s = t.advance (n + 1) := by
  simp [runAction, h, hg]

theorem runAction_of_halt {script : List Action} {s t : State} {a : Action} (h : script[s.seqStep]? = some a)
    (hg : a s = .halt t) : runAction script s = t := by
  simp [runAction, h, hg]

/-- With no transaction in flight and no answer pending, an action leaves in flight what it asks for. -/
theorem Requests.bus_runAction {script : List Action} {s : State} {a : Action} {req : State → Option Transaction}
    (h : Requests a req) (ha : script[s.seqStep]? = some a) (hb : s.bus = none) (hi : s.inputs = []) :
    (runAction script s).bus = req s := by
  cases hr : req s with
  | none =>
    have hsilent := h.silent s hr
    cases hg : a s with
    | go n t =>
      rw [hg] at hsilent
      rw [runAction_of_go ha hg, State.advance_bus, hsilent.bus, hb]
    | halt t =>
      rw [hg] at hsilent
      obtain ⟨u, c, hu, rfl⟩ := hsilent
      rw [runAction_of_halt ha hg, State.complete_bus, hu.bus, hb]
  | some t =>
    obtain ⟨onAck, -, hask⟩ := h.asks s t hr
    rw [transact_of_silence _ _ (by simp [hi])] at hask
    rw [runAction_of_halt ha hask, State.issue_bus_none s t hb]

theorem nextTransaction_of_illegal {s : State} {why : Illegal} (h : decode s.cmd = .illegal why) :
    s.nextTransaction = none := by
  simp [State.nextTransaction, h]

theorem nextTransaction_of_finished {s : State} {i : Instr} (hd : decode s.cmd = .command i)
    (hn : (scriptOf i)[s.seqStep]? = none) : s.nextTransaction = none := by
  simp only [State.nextTransaction, hd]
  exact congrArg State.bus (runAction_of_none (s := s.withTraffic s.arg none [] s.log) hn)

theorem Requests.nextTransaction {s : State} {i : Instr} {a : Action} {req : State → Option Transaction}
    (h : Requests a req) (hd : decode s.cmd = .command i) (ha : (scriptOf i)[s.seqStep]? = some a) :
    s.nextTransaction = req s := by
  simp only [State.nextTransaction, hd]
  exact (h.bus_runAction (s := s.withTraffic s.arg none [] s.log) ha rfl rfl).trans (h.blind s _ _ _ _)

/-- No host access, answer or other input changes which transaction comes next. -/
theorem nextTransaction_blind : Blind State.nextTransaction := by
  intro s q b l es
  cases hd : decode s.cmd with
  | illegal why => rw [nextTransaction_of_illegal hd, nextTransaction_of_illegal (by simpa using hd)]
  | command i =>
    have hd' : decode (s.withTraffic q b l es).cmd = .command i := by simpa using hd
    cases ha : (scriptOf i)[s.seqStep]? with
    | none => rw [nextTransaction_of_finished hd ha, nextTransaction_of_finished hd' (by simpa using ha)]
    | some a =>
      obtain ⟨req, hreq⟩ := scriptOf_disciplined i a (List.mem_of_getElem? ha)
      rw [hreq.nextTransaction hd ha, hreq.nextTransaction hd' (by simpa using ha), hreq.blind]

/-- Everything that a running command's next action can leave of `s`: the script is at its end; the action is off the
bus, and the sequencer goes on or the command completes; or the action is a bus transaction, which is acknowledged,
fails or waits (R84, R87, R90). -/
inductive Performed (s : State) : State → Prop
  | atEnd : Performed s s
  | goesOn {u : State} (n : Nat) (hn : s.nextTransaction = none) (hu : OffBus s u) : Performed s (u.advance n)
  | completes {u : State} (c : ResultCode) (hn : s.nextTransaction = none) (hu : OffBus s u) :
      Performed s (u.complete c)
  | acked {t : Transaction} {u : State} (n : Nat) (d : Word) (rest : List Input) (hn : s.nextTransaction = some t)
      (hu : OffBus (((s.issue t).answered (.ack d) rest).shadowed t) u) : Performed s (u.advance n)
  | fails {t : Transaction} (rest : List Input) (hn : s.nextTransaction = some t) :
      Performed s (((s.issue t).answered .error rest).raiseBusError t)
  | waits {t : Transaction} (hn : s.nextTransaction = some t) : Performed s (s.issue t)

theorem Performed.of_silent {script : List Action} {s : State} {a : Action} (ha : script[s.seqStep]? = some a)
    (hn : s.nextTransaction = none) (h : Silent s (a s)) : Performed s (runAction script s) := by
  cases hg : a s with
  | go n u =>
    rw [hg] at h
    rw [runAction_of_go ha hg]
    exact .goesOn _ hn h
  | halt u =>
    rw [hg] at h
    obtain ⟨u, c, hu, rfl⟩ := h
    rw [runAction_of_halt ha hg]
    exact .completes c hn hu

theorem Performed.of_transact {script : List Action} {s : State} {a : Action} {t : Transaction}
    {onAck : Word → State → State} (ha : script[s.seqStep]? = some a) (hn : s.nextTransaction = some t)
    (hask : a s = transact (fun _ => t) onAck s) (h : ∀ d u, OffBus u (onAck d u)) :
    Performed s (runAction script s) := by
  rcases transact_cases (fun _ => t) onAck s with ⟨d, rest, -, ht⟩ | ⟨rest, -, ht⟩ | ⟨-, ht⟩
  · rw [runAction_of_go ha (hask.trans ht)]
    exact .acked _ d rest hn (h d _)
  · rw [runAction_of_halt ha (hask.trans ht)]
    exact .fails rest hn
  · rw [runAction_of_halt ha (hask.trans ht)]
    exact .waits hn

theorem performed_runAction {s : State} {i : Instr} (hd : decode s.cmd = .command i) :
    Performed s (runAction (scriptOf i) s) := by
  cases ha : (scriptOf i)[s.seqStep]? with
  | none => rw [runAction_of_none ha]; exact .atEnd
  | some a =>
    obtain ⟨req, hreq⟩ := scriptOf_disciplined i a (List.mem_of_getElem? ha)
    have hn := hreq.nextTransaction hd ha
    cases hq : req s with
    | none => exact .of_silent ha (hn.trans hq) (hreq.silent s hq)
    | some t =>
      obtain ⟨onAck, hack, hask⟩ := hreq.asks s t hq
      exact .of_transact ha (hn.trans hq) hask hack

/-! ### The sequencer's invariant -/

theorem sequencerInv_bus_none {s : State} (h : s.SequencerInv) (hn : s.nextTransaction = none) : s.bus = none := by
  obtain ⟨-, -, hbus, -⟩ := h
  rcases hbus with hbus | ⟨-, hbus⟩
  · exact hbus
  · rw [hbus, hn]

theorem sequencerInv_bus_of_next {s : State} {t : Transaction} (h : s.SequencerInv)
    (hn : s.nextTransaction = some t) : s.bus = none ∨ s.bus = some t := by
  obtain ⟨-, -, hbus, -⟩ := h
  exact hbus.imp_right fun ⟨_, hbus⟩ => hbus.trans hn

theorem sequencerInv_bus_of_idle {s : State} (h : s.SequencerInv) (hr : s.running = false) : s.bus = none := by
  obtain ⟨-, -, hbus, -⟩ := h
  rcases hbus with hbus | ⟨hrun, -⟩
  · exact hbus
  · rw [hr] at hrun; cases hrun

/-- The ARG registers, the inputs to come and the record are no part of the sequencer's invariant. -/
theorem sequencerInv_traffic {s : State} (h : s.SequencerInv) (q : Quad) (l : List Input) (es : List Event) :
    (s.withTraffic q s.bus l es).SequencerInv := by
  obtain ⟨hbusy, hop, hbus, hrst⟩ := h
  refine ⟨hbusy, hop, ?_, hrst⟩
  rw [nextTransaction_blind]
  exact hbus

theorem sequencerInv_complete {s : State} (c : ResultCode) (hb : s.bus = none) : (s.complete c).SequencerInv :=
  ⟨rfl, nofun, .inl hb, fun _ => rfl⟩

/-- The sequencer goes on, with no transaction in flight. -/
theorem sequencerInv_advance {s t : State} (n : Nat) (h : s.SequencerInv) (hseq : t.seq = s.seq) (hcmd : t.cmd = s.cmd)
    (hbusy : t.busy = s.busy) (hrst : t.rst = s.rst) (hb : t.bus = none) : (t.advance n).SequencerInv := by
  obtain ⟨hbusy', hop, -, hrst'⟩ := h
  have hrun : (t.advance n).running = s.running := by simp [State.running, hseq]
  refine ⟨by simp [hrun, hbusy, hbusy'], fun hr => ?_, .inl hb, fun hr => ?_⟩
  · rw [hrun] at hr
    simpa [hseq, hcmd, Function.comp_def] using hop hr
  · rw [hrun]
    exact hrst' (by simpa [hrst] using hr)

/-- The sequencer waits for the transaction that its next action issues. -/
theorem sequencerInv_issue {s : State} {t : Transaction} (h : s.SequencerInv) (hr : s.running = true)
    (hn : s.nextTransaction = some t) : (s.issue t).SequencerInv := by
  cases hb : s.bus with
  | some u => rw [issue_of_inFlight t hb]; exact h
  | none =>
    obtain ⟨hbusy, hop, -, hrst⟩ := h
    rw [issue_of_idle t hb]
    have hnext := (nextTransaction_blind s s.arg (some t) s.inputs (s.log ++ [.bus t])).trans hn
    exact ⟨hbusy, hop, .inr ⟨hr, hnext.symm⟩, hrst⟩

theorem sequencerInv_accept {s : State} (w : Word32) (h : s.SequencerInv) (hb : s.busy = false) (hr : s.rst = false) :
    (s.accept w).SequencerInv := by
  obtain ⟨hbusy, -⟩ := id h
  have hbus : s.bus = none := sequencerInv_bus_of_idle h (hbusy.symm.trans hb)
  refine ⟨rfl, fun _ => rfl, .inl hbus, fun hrst => ?_⟩
  rw [State.accept_rst, hr] at hrst
  cases hrst

theorem sequencerInv_hostAccess {s : State} (a : Access) (h : s.SequencerInv) : (s.hostAccess a).SequencerInv := by
  cases a with
  | read offset => exact sequencerInv_traffic h s.arg s.inputs _
  | write offset v =>
    simp only [State.hostAccess]
    rcases hostWrite_cases s offset v with ⟨hrst, hbusy, hw⟩ | ⟨-, q, hw⟩ | hw <;> rw [hw]
    · exact sequencerInv_accept v h hbusy hrst
    · exact sequencerInv_traffic h q s.inputs s.log
    · exact h

theorem sequencerInv_releaseRst {s : State} (h : s.SequencerInv) : s.releaseRst.SequencerInv := by
  cases hrst : s.rst with
  | false =>
    have hsame : s.releaseRst = s := by cases s; cases hrst; rfl
    rwa [hsame]
  | true =>
    obtain ⟨hbusy, hop, -, hrun⟩ := id h
    have hbus : s.bus = none := sequencerInv_bus_of_idle h (hrun hrst)
    exact ⟨hbusy, hop, .inl hbus, nofun⟩

theorem sequencerInv_performed {s t : State} (h : s.SequencerInv) (hr : s.running = true) (hp : Performed s t) :
    t.SequencerInv := by
  cases hp with
  | atEnd => exact h
  | goesOn n hn hu =>
    exact sequencerInv_advance n h hu.seq hu.cmd hu.busy hu.rst (hu.bus.trans (sequencerInv_bus_none h hn))
  | completes c hn hu => exact sequencerInv_complete c (hu.bus.trans (sequencerInv_bus_none h hn))
  | acked n d rest hn hu =>
    refine sequencerInv_advance n h ?seq ?cmd ?busy ?rst ?bus
    case seq => simp [hu.seq]
    case cmd => simp [hu.cmd]
    case busy => simp [hu.busy]
    case rst => simp [hu.rst]
    case bus => simp [hu.bus]
  | fails rest hn => exact sequencerInv_complete .busError rfl
  | waits hn => exact sequencerInv_issue h hr hn

/-! ### The mirror -/

/-- A transaction goes out, or is in flight already. -/
theorem mirrorInv_issue {s : State} {t : Transaction} (h : s.MirrorInv) (hb : s.bus = none ∨ s.bus = some t) :
    (s.issue t).MirrorInv ∧ (s.issue t).bus = some t := by
  rcases hb with hb | hb
  · obtain ⟨hcc, haa, -⟩ := h
    rw [issue_of_idle t hb]
    refine ⟨⟨?_, ?_, ?_⟩, rfl⟩
    · simp [lastAcked_append, lastAcked, hcc]
    · simp [lastAcked_append, lastAcked, haa]
    · simp [unansweredAfter_append, unansweredAfter]
  · rw [issue_of_inFlight t hb]
    exact ⟨h, hb⟩

theorem mirrorInv_answered_error {s : State} (rest : List Input) (h : s.MirrorInv) :
    (s.answered .error rest).MirrorInv := by
  obtain ⟨hcc, haa, -⟩ := h
  refine ⟨?_, ?_, ?_⟩
  · simp [lastAcked_append, lastAcked, hcc]
  · simp [lastAcked_append, lastAcked, haa]
  · simp [unansweredAfter_append, unansweredAfter]

/-- The shadows follow an acknowledged transaction as the record's own account of it does (R92). -/
theorem shadowed_eq_ackedValue (s : State) (t : Transaction) :
    (s.shadowed t).shadowCc = ackedValue 0x07 s.shadowCc (some t) ∧
    (s.shadowed t).shadowAa = ackedValue 0xAF s.shadowAa (some t) := by
  obtain ⟨dev, r, transfer⟩ := t
  cases transfer with
  | read => exact ⟨rfl, rfl⟩
  | write v =>
    by_cases hc : r = regChipControl
    · subst hc; exact ⟨rfl, rfl⟩
    · by_cases ha : r = regAecAgcEnable
      · subst ha; exact ⟨rfl, rfl⟩
      · rw [shadowed_other s _ hc ha]
        exact ⟨(if_neg hc).symm, (if_neg ha).symm⟩

/-- An acknowledge moves the shadows as the record says (R92). -/
theorem mirrorInv_answered_ack {s : State} {t : Transaction} (d : Word) (rest : List Input) (h : s.MirrorInv)
    (hb : s.bus = some t) : ((s.answered (.ack d) rest).shadowed t).MirrorInv := by
  obtain ⟨hcc, haa, hbus⟩ := h
  have hpending : unansweredAfter none s.log = some t := by rw [← hbus, hb]
  obtain ⟨hcc', haa'⟩ := shadowed_eq_ackedValue (s.answered (.ack d) rest) t
  refine ⟨?_, ?_, ?_⟩
  · simp [hcc', lastAcked_append, lastAcked, hpending, hcc]
  · simp [haa', lastAcked_append, lastAcked, hpending, haa]
  · simp [unansweredAfter_append, unansweredAfter]

theorem mirrorInv_assertRst (s : State) (ok : Bool) : (s.assertRst ok).MirrorInv := by
  simp [State.assertRst, State.afterReset, State.MirrorInv, lastAcked_append, unansweredAfter_append, lastAcked,
    unansweredAfter]

theorem mirrorInv_hostAccess {s : State} (a : Access) (h : s.MirrorInv) : (s.hostAccess a).MirrorInv := by
  cases a with
  | read offset => exact (OffBus.emit s (e := .hostRead offset (s.hostWord offset)) rfl).mirrorInv h
  | write offset v =>
    simp only [State.hostAccess]
    rcases hostWrite_cases s offset v with ⟨-, -, hw⟩ | ⟨-, q, hw⟩ | hw <;> rw [hw] <;> exact h

theorem mirrorInv_performed {s t : State} (hseq : s.SequencerInv) (h : s.MirrorInv) (hp : Performed s t) :
    t.MirrorInv := by
  cases hp with
  | atEnd => exact h
  | goesOn n hn hu => exact hu.mirrorInv h
  | completes c hn hu => exact hu.mirrorInv h
  | acked n d rest hn hu =>
    obtain ⟨hissue, hflight⟩ := mirrorInv_issue h (sequencerInv_bus_of_next hseq hn)
    exact hu.mirrorInv (mirrorInv_answered_ack d rest hissue hflight)
  | fails rest hn =>
    obtain ⟨hissue, -⟩ := mirrorInv_issue h (sequencerInv_bus_of_next hseq hn)
    exact mirrorInv_answered_error rest hissue
  | waits hn => exact (mirrorInv_issue h (sequencerInv_bus_of_next hseq hn)).1

/-! ### Every step keeps both -/

/-- The sequencer's invariant and the mirror, which needs it to know what transaction an answer is for. -/
def State.Synced (s : State) : Prop := s.SequencerInv ∧ s.MirrorInv

theorem synced_step {s t : State} (h : s.Synced) (hs : step s = .next t) : t.Synced := by
  refine step_keeps State.Synced ?inputs ?access ?assert ?release ?illegal ?action h hs
  case inputs => exact fun s l ⟨hs, hm⟩ => ⟨sequencerInv_traffic hs s.arg l s.log, hm⟩
  case access => exact fun s a ⟨hs, hm⟩ => ⟨sequencerInv_hostAccess a hs, mirrorInv_hostAccess a hm⟩
  case assert => exact fun s ok _ => ⟨⟨rfl, nofun, .inl rfl, fun _ => rfl⟩, mirrorInv_assertRst s ok⟩
  case release => exact fun s ⟨hs, hm⟩ => ⟨sequencerInv_releaseRst hs, hm⟩
  case illegal =>
    exact fun s why _ hd ⟨hs, hm⟩ =>
      ⟨sequencerInv_complete _ (sequencerInv_bus_none hs (nextTransaction_of_illegal hd)), hm⟩
  case action =>
    exact fun s i hr hd ⟨hs, hm⟩ =>
      ⟨sequencerInv_performed hs hr (performed_runAction hd), mirrorInv_performed hs hm (performed_runAction hd)⟩

/-- Settles O54: the mirror is kept together with the sequencer's invariant (`synced_step`), action by action. -/
theorem shadowsMirrorTheBus : Obligations.ShadowsMirrorTheBus :=
  fun _ _ hseq hmirror hstep => (synced_step ⟨hseq, hmirror⟩ hstep).2

end Sys2Proof.Machine

/-! PROOFS. The host register map (R73 to R76): which word an offset addresses, and what a read and a write do there. -/

namespace Sys2Proof.Machine

/-! ### The word an offset addresses -/

/-- Clearing offset bits 1:0 leaves four times the number of the word (R74). -/
theorem toNat_and_wordMask (offset : Byte) : (offset &&& 0xFC).toNat = 4 * (offset.toNat / 4) := by
  have hshift : offset &&& (0xFC : Byte) = (offset >>> 2) <<< 2 := by
    refine BitVec.eq_of_getLsbD_eq fun i hi => ?_
    interval_cases i <;> simp
  rw [hshift, BitVec.toNat_shiftLeft, BitVec.toNat_ushiftRight, Nat.shiftLeft_eq, Nat.shiftRight_eq_div_pow]
  omega

/-- An offset addresses the register at `4 * k` exactly when `k` is the number of its word (R74). -/
theorem and_wordMask_eq_iff {o : Byte} {k : Nat} (ho : o.toNat = 4 * k) (offset : Byte) :
    offset &&& 0xFC = o ↔ offset.toNat / 4 = k := by
  rw [← BitVec.toNat_inj, toNat_and_wordMask, ho]
  omega

/-- The register block by word number (R73, R75). -/
def State.wordAt (s : State) : Nat → Word32
  | 0 => s.cmd
  | 1 => s.status
  | 2 => s.arg.r0.setWidth 32
  | 3 => s.arg.r1.setWidth 32
  | 4 => s.arg.r2.setWidth 32
  | 5 => s.arg.r3.setWidth 32
  | 6 => s.res.r0.setWidth 32
  | 7 => s.res.r1.setWidth 32
  | 8 => s.res.r2.setWidth 32
  | 9 => s.res.r3.setWidth 32
  | 10 => s.errInfo.setWidth 32
  | 11 => s.chipVer.setWidth 32
  | _ => 0

/-- The ARG registers after a write of `v` to the word of a number, which is not CMD's (R73, R75). -/
def State.argWritten (s : State) (v : Word32) : Nat → Quad
  | 2 => { s.arg with r0 := v.setWidth 16 }
  | 3 => { s.arg with r1 := v.setWidth 16 }
  | 4 => { s.arg with r2 := v.setWidth 16 }
  | 5 => { s.arg with r3 := v.setWidth 16 }
  | _ => s.arg

theorem hostWord_eq_wordAt (s : State) (offset : Byte) : s.hostWord offset = s.wordAt (offset.toNat / 4) := by
  simp only [State.hostWord, and_wordMask_eq_iff (o := offCmd) (k := 0) rfl,
    and_wordMask_eq_iff (o := offStatus) (k := 1) rfl, and_wordMask_eq_iff (o := offArg0) (k := 2) rfl,
    and_wordMask_eq_iff (o := offArg1) (k := 3) rfl, and_wordMask_eq_iff (o := offArg2) (k := 4) rfl,
    and_wordMask_eq_iff (o := offArg3) (k := 5) rfl, and_wordMask_eq_iff (o := offRes0) (k := 6) rfl,
    and_wordMask_eq_iff (o := offRes1) (k := 7) rfl, and_wordMask_eq_iff (o := offRes2) (k := 8) rfl,
    and_wordMask_eq_iff (o := offRes3) (k := 9) rfl, and_wordMask_eq_iff (o := offErrInfo) (k := 10) rfl,
    and_wordMask_eq_iff (o := offChipVer) (k := 11) rfl]
  generalize offset.toNat / 4 = k
  match k with
  | 0 | 1 | 2 | 3 | 4 | 5 | 6 | 7 | 8 | 9 | 10 | 11 => rfl
  | _ + 12 => simp [State.wordAt]

theorem hostWrite_eq_argWritten {s : State} {offset : Byte} (v : Word32) (hrst : s.rst = false)
    (hcmd : offset.toNat / 4 ≠ 0) : s.hostWrite offset v = { s with arg := s.argWritten v (offset.toNat / 4) } := by
  simp only [State.hostWrite, and_wordMask_eq_iff (o := offCmd) (k := 0) rfl,
    and_wordMask_eq_iff (o := offArg0) (k := 2) rfl, and_wordMask_eq_iff (o := offArg1) (k := 3) rfl,
    and_wordMask_eq_iff (o := offArg2) (k := 4) rfl, and_wordMask_eq_iff (o := offArg3) (k := 5) rfl]
  rw [if_neg (by simp [hrst])]
  generalize offset.toNat / 4 = k at hcmd
  match k with
  | 0 => exact absurd rfl hcmd
  | 1 | 2 | 3 | 4 | 5 => rfl
  | _ + 6 => simp [State.argWritten]

/-! ### The obligation -/

/-- Settles O7: the step of a host access, with the read word and the ARG registers by word number. -/
theorem hostRegisterMap : Obligations.HostRegisterMap := by
  refine ⟨fun s offset rest hin => ?_, fun s offset v rest hrst hcmd hin => ?_⟩
  · rw [step_of_access hin, State.hostAccess, hostWord_eq_wordAt]
    rfl
  · rw [step_of_access hin, State.hostAccess, hostWrite_eq_argWritten (s := { s with inputs := rest }) v hrst hcmd]
    rfl

end Sys2Proof.Machine

/-! PROOFS. Decoding read off the fields of the word as numbers (R110, R113, R114), and what the sequencer does with a
word that decodes to ILLEGAL (R113, R275). -/

namespace Sys2Proof

/-! ### The fields of a word as numbers (R110) -/

theorem opcodeField_toNat (w : Word32) : (opcodeField w).toNat = w.toNat % 256 := by
  simp [opcodeField]

theorem targetField_eq_true_iff (w : Word32) : targetField w = true ↔ w.toNat / 256 % 2 = 1 := by
  simp [targetField, BitVec.getLsbD, Nat.testBit_eq_decide_div_mod_eq]

theorem reservedField_eq_zero_iff (w : Word32) : reservedField w = 0 ↔ w.toNat / 512 = 0 := by
  have hw : w.toNat < 2 ^ 32 := w.isLt
  have hfield : (reservedField w).toNat = w.toNat / 512 := by
    simp only [reservedField, BitVec.extractLsb'_toNat, Nat.shiftRight_eq_div_pow]
    omega
  rw [← BitVec.toNat_inj, hfield]
  rfl

/-! ### The opcode map (R114) -/

/-- The numbers of the opcode map. -/
def opcodeNumbers : List Nat :=
  [0x01, 0x02, 0x03, 0x10, 0x11, 0x12, 0x13, 0x20, 0x21, 0x22, 0x23, 0x24, 0x30, 0x31,
   0x40, 0x41, 0x42, 0x43, 0x44, 0x45]

/-- The numbers of the geometry commands, the opcodes that admit W = 1. -/
def targetNumbers : List Nat := [0x10, 0x11, 0x12, 0x13]

theorem opcodeOf_toNat_mem (i : Instr) : (opcodeOf i).toNat ∈ opcodeNumbers := by
  cases i <;> simp [opcodeOf, opcodeNumbers]

theorem takesTarget_iff (i : Instr) : i.takesTarget = true ↔ (opcodeOf i).toNat ∈ targetNumbers := by
  cases i <;> simp [Instr.takesTarget, opcodeOf, targetNumbers]

/-- What the opcode map names carries that opcode, and the target where the command has one. -/
theorem opcodeOf_of_commandOf {op : Byte} {t : Target} {i : Instr} (h : commandOf op t = some i) :
    (opcodeOf i).toNat = op.toNat ∧ targetBitOf i = (i.takesTarget && t == .attempt) := by
  unfold commandOf at h
  split at h <;> cases h
  all_goals
    rename_i hop
    exact ⟨hop.symm, rfl⟩

theorem commandOf_of_mem {op : Byte} (t : Target) (h : op.toNat ∈ opcodeNumbers) : ∃ i, commandOf op t = some i := by
  unfold commandOf
  split
  case h_21 => simp_all [opcodeNumbers]
  all_goals exact ⟨_, rfl⟩

/-! ### Decoding (R113) -/

/-- R113's three checks, each by its failure: RSVD not 0, OPCODE outside the map, W = 1 on a command without a target. -/
def Undecodable (w : Word32) : Prop :=
  w.toNat / 512 ≠ 0 ∨ w.toNat % 256 ∉ opcodeNumbers ∨ (w.toNat / 256 % 2 = 1 ∧ w.toNat % 256 ∉ targetNumbers)

theorem decode_eq_command_iff {w : Word32} {i : Instr} :
    decode w = .command i ↔ reservedField w = 0 ∧
      commandOf (opcodeField w) (targetOf (targetField w)) = some i ∧
      (targetField w = true → i.takesTarget = true) := by
  unfold decode
  split
  case isTrue hrsvd => exact iff_of_false nofun fun h => hrsvd h.1
  case isFalse hrsvd =>
    have hreserved : reservedField w = 0 := not_not.mp hrsvd
    cases hcommand : commandOf (opcodeField w) (targetOf (targetField w)) with
    | none => simp
    | some j =>
      by_cases hji : j = i
      · subst hji
        simp [hreserved]
      · simp only
        split <;> simp [hji]

theorem opcodeOf_decode {w : Word32} {i : Instr} (h : decode w = .command i) :
    (opcodeOf i).toNat = w.toNat % 256 := by
  obtain ⟨-, hcommand, -⟩ := decode_eq_command_iff.mp h
  rw [(opcodeOf_of_commandOf hcommand).1, opcodeField_toNat]

theorem targetBitOf_decode {w : Word32} {i : Instr} (h : decode w = .command i) :
    targetBitOf i = true ↔ w.toNat / 256 % 2 = 1 := by
  obtain ⟨-, hcommand, hallowed⟩ := decode_eq_command_iff.mp h
  rw [(opcodeOf_of_commandOf hcommand).2, ← targetField_eq_true_iff]
  cases hw : targetField w with
  | false => simp [targetOf]
  | true => simp [targetOf, hallowed hw]

theorem not_undecodable_of_decode {w : Word32} {i : Instr} (h : decode w = .command i) : ¬ Undecodable w := by
  obtain ⟨hreserved, -, hallowed⟩ := decode_eq_command_iff.mp h
  rintro (hrsvd | hop | ⟨htarget, hop⟩)
  · exact hrsvd ((reservedField_eq_zero_iff w).mp hreserved)
  · exact hop (opcodeOf_decode h ▸ opcodeOf_toNat_mem i)
  · have htakes : i.takesTarget = true := hallowed ((targetField_eq_true_iff w).mpr htarget)
    exact hop (opcodeOf_decode h ▸ (takesTarget_iff i).mp htakes)

theorem decode_of_not_undecodable {w : Word32} (h : ¬ Undecodable w) : ∃ i, decode w = .command i := by
  simp only [Undecodable, not_or, not_and, not_not] at h
  obtain ⟨hrsvd, hop, htarget⟩ := h
  rw [← opcodeField_toNat] at hop htarget
  obtain ⟨i, hcommand⟩ := commandOf_of_mem (targetOf (targetField w)) hop
  refine ⟨i, decode_eq_command_iff.mpr ⟨(reservedField_eq_zero_iff w).mpr hrsvd, hcommand, fun hw => ?_⟩⟩
  rw [takesTarget_iff, (opcodeOf_of_commandOf hcommand).1]
  exact htarget ((targetField_eq_true_iff w).mp hw)

theorem decode_of_undecodable {w : Word32} (h : Undecodable w) : ∃ why, decode w = .illegal why := by
  cases hd : decode w with
  | illegal why => exact ⟨why, rfl⟩
  | command i => exact absurd h (not_undecodable_of_decode hd)

end Sys2Proof

namespace Sys2Proof.Machine

/-! ### The step of a running ILLEGAL word (R113, R275) -/

section
variable {s : State} {why : Illegal}

theorem sequencerTurn_of_illegal (hr : s.running = true) (hd : decode s.cmd = .illegal why) :
    sequencerTurn s = .next (s.raise .illegalCommand) := by
  simp [sequencerTurn, hr, hd]

theorem sequencerAction_of_illegal (hr : s.running = true) (hd : decode s.cmd = .illegal why) :
    sequencerAction s = s.raise .illegalCommand := by
  simp [sequencerAction, hr, hd]

end

theorem step_of_no_input {s : State} (h : s.inputs = []) : step s = sequencerTurn s := by
  simp [step, nextStep, h]

theorem step_of_turn {s : State} {rest : List Input} (h : s.inputs = .turn :: rest) :
    step s = sequencerTurn { s with inputs := rest } := by
  simp [step, nextStep, h]

theorem step_of_action {s : State} {rest : List Input} (h : s.inputs = .action :: rest) :
    step s = .next (sequencerAction { s with inputs := rest }) := by
  simp [step, nextStep, h]

/-! ### The encoding obligation -/

/-- Settles O3: `decode` yields a command exactly on the words that are not `Undecodable`, and each way the sequencer
moves raises ILLEGAL_COMMAND on the others. -/
theorem undecodableWordsAreIllegal : Obligations.UndecodableWordsAreIllegal := by
  refine ⟨fun w => decode_of_undecodable, fun w hw => ?_, fun s hr hbad => ?_⟩
  · obtain ⟨i, hd⟩ := decode_of_not_undecodable hw
    exact ⟨i, hd, opcodeOf_decode hd, targetBitOf_decode hd⟩
  · obtain ⟨why, hd⟩ := decode_of_undecodable hbad
    refine ⟨fun hin => ?_, fun rest hin => ?_⟩
    · rw [step_of_no_input hin, sequencerTurn_of_illegal hr hd]
      rfl
    · rcases hin with hin | hin
      · rw [step_of_turn hin, sequencerTurn_of_illegal (s := { s with inputs := rest }) hr hd]
        rfl
      · rw [step_of_action hin, sequencerAction_of_illegal (s := { s with inputs := rest }) hr hd]
        rfl

end Sys2Proof.Machine

/-! PROOFS. The common prologue at a command's start (R140, R276), and TEARDOWN (R146). -/

namespace Sys2Proof.Machine

/-! ### The common prologue -/

/-- Every command's pseudocode opens with the resource check (R140). -/
theorem scriptOf_eq_prologue_cons (i : Instr) : ∃ rest, scriptOf i = prologue :: rest := by
  cases i <;> exact ⟨_, rfl⟩

/-- R276: a command that starts on a failed or detached controller runs nothing of its own. -/
theorem exec_of_dead (i : Instr) {s : State} (hready : s.Ready) (hdead : s.failed = true ∨ s.detached = true) :
    exec i s = .next (s.raise .resourceError) := by
  obtain ⟨hstep, -⟩ := hready
  obtain ⟨rest, hscript⟩ := scriptOf_eq_prologue_cons i
  rw [exec_eq_runScript, runScript, hscript, hstep, runActions_of_halt rest (prologue_of_dead hdead)]

/-- A command that starts on a live controller goes on behind the prologue. -/
theorem exec_of_starts {i : Instr} {rest : List Action} (hscript : scriptOf i = prologue :: rest) {s : State}
    (h : s.Starts) : exec i s = .next (runActions rest 0 (s.advance 1)) := by
  obtain ⟨⟨hstep, -⟩, hlive⟩ := h
  rw [exec_eq_runScript, runScript, hscript, hstep, runActions_of_go rest (prologue_of_live hlive)]

/-! ### A script's next action, by its kind -/

section
variable {s : State} (as : List Action)

theorem runActions_update (f : State → State) : runActions (update f :: as) 0 s = runActions as 0 ((f s).advance 1) :=
  runActions_of_go as (update_apply f s)

theorem runActions_completeOk : runActions (completeOk :: as) 0 s = s.complete .ok :=
  runActions_of_halt as (completeOk_apply s)

theorem runActions_raiseIf_of_true {c : State → Bool} (code : ResultCode) (h : c s = true) :
    runActions (raiseIf c code :: as) 0 s = s.raise code :=
  runActions_of_halt as (raiseIf_of_true code h)

theorem runActions_raiseIf_of_false {c : State → Bool} (code : ResultCode) (h : c s = false) :
    runActions (raiseIf c code :: as) 0 s = runActions as 0 (s.advance 1) :=
  runActions_of_go as (raiseIf_of_false code h)

end

/-! ### TEARDOWN -/

theorem powered_eq_false_iff (s : State) : s.powered = false ↔ s.powerCount = 0 := by
  simp [State.powered]

theorem powered_eq_true_iff (s : State) : s.powered = true ↔ s.powerCount ≠ 0 := by
  simp [State.powered]

theorem exec_teardown_of_unpowered {s : State} (h : s.Starts) (hcount : s.powerCount = 0) :
    exec .teardown s = .next { s with
      clkEn := false, detached := true, log := s.log ++ [.clkOff], result := .ok, busy := false, seq := none } := by
  have hpow : (s.advance 1).powered = false := (powered_eq_false_iff _).mpr hcount
  rw [exec_of_starts rfl h, runActions_raiseIf_of_false _ _ hpow, clockDisable, runActions_update, runActions_update,
    runActions_completeOk]
  rfl

theorem exec_teardown_of_powered {s : State} (h : s.Starts) (hcount : s.powerCount ≠ 0) :
    exec .teardown s = .next { s with result := .precondition, busy := false, seq := none } := by
  have hpow : (s.advance 1).powered = true := (powered_eq_true_iff _).mpr hcount
  rw [exec_of_starts rfl h, runActions_raiseIf_of_true _ _ hpow]
  rfl

/-- Settles O31: TEARDOWN action by action on either side of its power check; what it leaves is detached, and there
the prologue ends every command (`exec_of_dead`). -/
theorem teardownDetaches : Obligations.TeardownDetaches := by
  refine ⟨by decide, fun s hs => ⟨exec_teardown_of_unpowered hs, exec_teardown_of_powered hs, fun hcount => ?_⟩⟩
  refine ⟨_, exec_teardown_of_unpowered hs hcount, fun i u hready hdetached => ?_⟩
  exact exec_of_dead i hready (.inr hdetached)

end Sys2Proof.Machine

/-! PROOFS. SET_CROP, GET_CROP and GET_FORMAT for either target (R171, R172, R174). -/

namespace Sys2Proof.Machine

/-! ### What SET_CROP does to its target -/

/-- The target's format after its crop went from `old` to `new`: kept when the size is the same, else the new size
(R171). -/
def resizedFormat (old new : Crop) (f : Format) : Format :=
  if new.width = old.width ∧ new.height = old.height then f else ⟨new.width, new.height⟩

theorem withFmt_fmt_self (s : State) (w : Target) : s.withFmt w (s.fmt w) = s := by
  cases w <;> rfl

theorem installCrop_eq (s : State) (w : Target) (c : Crop) :
    s.installCrop w c = (s.withFmt w (resizedFormat (s.crop w) c (s.fmt w))).withCrop w c := by
  by_cases hsize : c.width = (s.crop w).width ∧ c.height = (s.crop w).height
  · simp [State.installCrop, resizedFormat, hsize, withFmt_fmt_self]
  · simp [State.installCrop, resizedFormat, hsize]

/-! ### Only SEQ moves between the actions -/

section
variable (s : State) (n : Nat) (w : Target)

@[simp] theorem crop_advance : (s.advance n).crop w = s.crop w := by cases w <;> rfl

@[simp] theorem fmt_advance : (s.advance n).fmt w = s.fmt w := by cases w <;> rfl

theorem withFmt_advance (f : Format) : (s.advance n).withFmt w f = (s.withFmt w f).advance n := by
  cases w <;> rfl

theorem withCrop_advance (c : Crop) : (s.advance n).withCrop w c = (s.withCrop w c).advance n := by
  cases w <;> rfl

theorem installCrop_advance (c : Crop) : (s.advance n).installCrop w c = (s.installCrop w c).advance n := by
  rw [installCrop_eq, installCrop_eq, withFmt_advance, withCrop_advance, crop_advance, fmt_advance]

theorem resCrop_advance (c : Crop) : (s.advance n).resCrop c = (s.resCrop c).advance n := rfl

theorem resFmt_advance (f : Format) : (s.advance n).resFmt f = (s.resFmt f).advance n := rfl

@[simp] theorem complete_advance (code : ResultCode) : (s.advance n).complete code = s.complete code := rfl

end

/-! ### The commands from their start, for either target -/

theorem runActions_completeWith (f : State → State) (as : List Action) (s : State) :
    runActions (completeWith f :: as) 0 s = (f s).complete .ok :=
  runActions_of_halt as (completeWith_apply f s)

section
variable {s : State} (w : Target)

theorem exec_getCrop_of_starts (h : s.Starts) :
    exec (.getCrop w) s = .next ((s.resCrop (s.crop w)).complete .ok) := by
  rw [exec_of_starts rfl h, runActions_completeWith, crop_advance, resCrop_advance, complete_advance]

theorem exec_getFormat_of_starts (h : s.Starts) :
    exec (.getFormat w) s = .next ((s.resFmt (s.fmt w)).complete .ok) := by
  rw [exec_of_starts rfl h, runActions_completeWith, fmt_advance, resFmt_advance, complete_advance]

/-- SET_CROP installs the rectangle `c` of its operands and reports what it installed. -/
theorem exec_setCrop_of_starts {c : Crop} (h : s.Starts) (hc : cropFor s.a0 s.a1 s.a2 s.a3 = c) :
    exec (.setCrop w) s = .next (((s.installCrop w c).resCrop c).complete .ok) := by
  have hadvance : cropFor (s.advance 1).a0 (s.advance 1).a1 (s.advance 1).a2 (s.advance 1).a3 = c := hc
  rw [exec_of_starts rfl h, runActions_update, runActions_completeWith, hadvance, crop_advance,
    State.crop_installCrop, installCrop_advance, resCrop_advance, complete_advance, resCrop_advance,
    complete_advance]

end

/-! ### Settled obligations -/

/-- Settles O33: SET_CROP's next state at each target. The rectangle is `cropFor`'s in the arithmetic of R13, checked
by evaluation; it is then any rectangle, so that comparing the next states does not evaluate it again. -/
theorem setCropInstallsClamped : Obligations.SetCropInstallsClamped := by
  refine ⟨by decide, by decide, fun s h => ?_⟩
  intro l t wd ht c resized
  have hc : cropFor s.a0 s.a1 s.a2 s.a3 = c := rfl
  have hresized (old : Crop) (f : Format) : resizedFormat old c f = resized old f := rfl
  clear_value resized c
  constructor
  · rw [exec_setCrop_of_starts .active h hc, installCrop_eq, hresized]
    rfl
  · rw [exec_setCrop_of_starts .attempt h hc, installCrop_eq, hresized]
    rfl

/-- Settles O35: GET_CROP's next state at each target. -/
theorem getCropReports : Obligations.GetCropReports :=
  ⟨by decide, by decide, fun _ h => ⟨exec_getCrop_of_starts .active h, exec_getCrop_of_starts .attempt h⟩⟩

/-- Settles O37: GET_FORMAT's next state at each target; the constant fields of `resFmt` are 0x300A and 0x0801. -/
theorem getFormatReports : Obligations.GetFormatReports :=
  ⟨by decide, by decide, fun _ h => ⟨exec_getFormat_of_starts .active h, exec_getFormat_of_starts .attempt h⟩⟩

end Sys2Proof.Machine

/-! PROOFS. SET_AUTO_GAIN, SET_ANALOG_GAIN, SET_EXPOSURE and SET_TEST_PATTERN (R202, R203, R205, R206): what a control
command does in each case of R200, said once, and then each command's range, value and cache. -/

namespace Sys2Proof.Machine

/-! ### One write, answered at once -/

/-- `s` once transaction `t` went out and the response `r` to it was taken. -/
def State.exchanged (s : State) (t : Transaction) (r : Reply) (rest : List Input) : State :=
  { s with inputs := rest, log := s.log ++ [.bus t, .answer r] }

/-- A transaction that is answered at once leaves the bus as idle as it was. -/
theorem answered_issue_of_idle {s : State} (t : Transaction) (r : Reply) (rest : List Input) (hbus : s.bus = none) :
    (s.issue t).answered r rest = s.exchanged t r rest := by
  simp [issue_of_idle t hbus, State.answered, State.exchanged, hbus]

/-- ERRINFO after a failed write is its register, bit 8 being for reads (R48). -/
theorem raiseBusError_writeTo (u s : State) (r : Byte) (v : Word) :
    u.raiseBusError (writeTo s r v) = { u with errInfo := r.setWidth 16 }.raise .busError := by
  simp [State.raiseBusError, errInfoOf, writeTo]

section
variable {s : State} (r : Byte) (v : State → Word) {rest : List Input}

theorem memWrite_of_ack {d : Word} (hbus : s.bus = none) (hin : s.inputs = .reply (.ack d) :: rest) :
    memWrite r v s = .go 0 ((s.exchanged (writeTo s r (v s)) (.ack d) rest).shadowed (writeTo s r (v s))) := by
  rw [← answered_issue_of_idle _ _ _ hbus]
  exact transact_of_ack (fun u => writeTo u r (v u)) _ hin

theorem memWrite_of_error (hbus : s.bus = none) (hin : s.inputs = .reply .error :: rest) :
    memWrite r v s = .halt ((s.exchanged (writeTo s r (v s)) .error rest).raiseBusError (writeTo s r (v s))) := by
  rw [← answered_issue_of_idle _ _ _ hbus]
  exact transact_of_error (fun u => writeTo u r (v u)) _ hin

end

/-! ### Where SEQ stands makes no difference -/

section
variable (s : State) (n : Nat) (t : Transaction)

@[simp] theorem raise_advance (c : ResultCode) : (s.advance n).raise c = s.raise c := rfl

@[simp] theorem writeTo_advance (r : Byte) (v : Word) : writeTo (s.advance n) r v = writeTo s r v := rfl

@[simp] theorem exchanged_advance (r : Reply) (rest : List Input) :
    (s.advance n).exchanged t r rest = (s.exchanged t r rest).advance n := rfl

@[simp] theorem raiseBusError_advance : (s.advance n).raiseBusError t = s.raiseBusError t := rfl

@[simp] theorem shadowed_advance : (s.advance n).shadowed t = (s.shadowed t).advance n := by
  obtain ⟨dev, reg, transfer⟩ := t
  cases transfer with
  | read => rfl
  | write v =>
    by_cases hcc : reg = regChipControl
    · subst hcc; rfl
    · by_cases haa : reg = regAecAgcEnable
      · subst haa; rfl
      · rw [shadowed_other _ _ hcc haa, shadowed_other _ _ hcc haa]

end

/-! ### A control command from its start -/

/-- Command `i` has the shape of R200, and none of its parts depends on where SEQ stands. -/
structure ControlCommand (i : Instr) (legal : State → Bool) (r : Byte) (value : State → Word)
    (cache : State → State) : Prop where
  script : scriptOf i = controlScript legal r value cache
  legal_advance : ∀ s n, legal (State.advance s n) = legal s
  value_advance : ∀ s n, value (State.advance s n) = value s
  cache_advance : ∀ s n, cache (State.advance s n) = (cache s).advance n

namespace ControlCommand

variable {i : Instr} {legal : State → Bool} {r : Byte} {value : State → Word} {cache : State → State}
  {s : State} {rest : List Input}

theorem exec_of_illegal (hi : ControlCommand i legal r value cache) (hs : s.Starts) (hillegal : ¬ legal s = true) :
    exec i s = .next (s.raise .invalidArgument) := by
  have hcheck : (fun u => !legal u) (s.advance 1) = true := by
    simpa [hi.legal_advance] using hillegal
  rw [exec_of_starts hi.script hs, runActions_raiseIf_of_true _ _ hcheck, raise_advance]

/-- Behind the range check an accepted operand goes to the write. -/
theorem exec_of_legal (hi : ControlCommand i legal r value cache) (hs : s.Starts) (hlegal : legal s = true) :
    exec i s = .next (runActions [onlyIf State.powered (memWrite r value), update cache, completeOk] 0
      ((s.advance 1).advance 1)) := by
  have hcheck : (fun u => !legal u) (s.advance 1) = false := by
    simpa [hi.legal_advance] using hlegal
  rw [exec_of_starts hi.script hs, runActions_raiseIf_of_false _ _ hcheck]

theorem complete_cache_advance (hi : ControlCommand i legal r value cache) (u : State) (n : Nat) :
    (cache (u.advance n)).complete .ok = (cache u).complete .ok := by
  rw [hi.cache_advance, complete_advance]

/-- Behind the write the cache takes its value and the command ends. -/
theorem runActions_cache (hi : ControlCommand i legal r value cache) (u : State) (n : Nat) :
    runActions [update cache, completeOk] 0 (u.advance n) = (cache u).complete .ok := by
  rw [runActions_update, runActions_completeOk, complete_advance, hi.complete_cache_advance]

theorem exec_of_cold (hi : ControlCommand i legal r value cache) (hs : s.Starts) (hlegal : legal s = true)
    (hcold : s.powerCount = 0) : exec i s = .next ((cache s).complete .ok) := by
  have hpow : ((s.advance 1).advance 1).powered = false := (powered_eq_false_iff _).mpr hcold
  rw [hi.exec_of_legal hs hlegal, runActions_of_go _ (onlyIf_of_false _ hpow), hi.runActions_cache,
    hi.complete_cache_advance, hi.complete_cache_advance]

theorem exec_of_acked (hi : ControlCommand i legal r value cache) (hs : s.Starts) (hlegal : legal s = true)
    (hcount : s.powerCount ≠ 0) {d : Word} (hin : s.inputs = .reply (.ack d) :: rest) {v : Word} (hv : value s = v) :
    exec i s =
      .next ((cache ((s.exchanged (writeTo s r v) (.ack d) rest).shadowed (writeTo s r v))).complete .ok) := by
  rw [hi.exec_of_legal hs hlegal]
  obtain ⟨⟨-, hbus⟩, -⟩ := hs
  have hpow : ((s.advance 1).advance 1).powered = true := (powered_eq_true_iff _).mpr hcount
  have hwrite := (onlyIf_of_true (memWrite r value) hpow).trans (memWrite_of_ack r value hbus hin)
  simp only [writeTo_advance, hi.value_advance, exchanged_advance, shadowed_advance, hv] at hwrite
  rw [runActions_of_go _ hwrite, hi.runActions_cache, hi.complete_cache_advance,
    hi.complete_cache_advance]

theorem exec_of_failed (hi : ControlCommand i legal r value cache) (hs : s.Starts) (hlegal : legal s = true)
    (hcount : s.powerCount ≠ 0) (hin : s.inputs = .reply .error :: rest) {v : Word}
    (hv : value s = v) :
    exec i s = .next ({ s.exchanged (writeTo s r v) .error rest with errInfo := r.setWidth 16 }.raise .busError) := by
  rw [hi.exec_of_legal hs hlegal]
  obtain ⟨⟨-, hbus⟩, -⟩ := hs
  have hpow : ((s.advance 1).advance 1).powered = true := (powered_eq_true_iff _).mpr hcount
  have hwrite := (onlyIf_of_true (memWrite r value) hpow).trans (memWrite_of_error r value hbus hin)
  simp only [writeTo_advance, hi.value_advance, exchanged_advance, raiseBusError_advance, hv] at hwrite
  rw [runActions_of_halt _ hwrite, raiseBusError_writeTo]

/-- All four results of a control command whose register has no shadow (R92): an acknowledged write then changes
nothing but the record. -/
theorem exec_of_unshadowed (hi : ControlCommand i legal r value cache) (hcc : r ≠ regChipControl)
    (haa : r ≠ regAecAgcEnable) (hs : s.Starts) {inRange : Prop} (hrange : legal s = true ↔ inRange) :
    (¬ inRange → exec i s = .next (s.raise .invalidArgument)) ∧
    (inRange → s.powerCount = 0 → exec i s = .next ((cache s).complete .ok)) ∧
    (∀ d rest, inRange → s.powerCount ≠ 0 → s.inputs = .reply (.ack d) :: rest →
      exec i s = .next ((cache (s.exchanged (writeTo s r (value s)) (.ack d) rest)).complete .ok)) ∧
    (∀ rest, inRange → s.powerCount ≠ 0 → s.inputs = .reply .error :: rest →
      exec i s = .next ({ s.exchanged (writeTo s r (value s)) .error rest with
        errInfo := r.setWidth 16 }.raise .busError)) := by
  refine ⟨fun h => ?_, fun h hcold => ?_, fun d rest h hcount hin => ?_, fun rest h hcount hin => ?_⟩
  · exact hi.exec_of_illegal hs (mt hrange.mp h)
  · exact hi.exec_of_cold hs (hrange.mpr h) hcold
  · rw [hi.exec_of_acked hs (hrange.mpr h) hcount hin rfl, shadowed_other _ _ hcc haa]
  · exact hi.exec_of_failed hs (hrange.mpr h) hcount hin rfl

end ControlCommand

/-! ### The four commands -/

theorem setAutoGain_control : ControlCommand .setAutoGain legalSwitch regAecAgcEnable
    (fun s => withAgc s.shadowAa (gainSwitch s.a0)) (fun s => { s with ctlAg := gainSwitch s.a0 }) :=
  ⟨rfl, fun _ _ => rfl, fun _ _ => rfl, fun _ _ => rfl⟩

theorem setAnalogGain_control : ControlCommand .setAnalogGain legalGain regAnalogGain (fun s => s.a0)
    (fun s => { s with ctlGain := s.a0.setWidth 8 }) :=
  ⟨rfl, fun _ _ => rfl, fun _ _ => rfl, fun _ _ => rfl⟩

theorem setExposure_control : ControlCommand .setExposure legalExposure regTotalShutterWidth (fun s => s.a0)
    (fun s => { s with ctlExp := s.a0 }) :=
  ⟨rfl, fun _ _ => rfl, fun _ _ => rfl, fun _ _ => rfl⟩

theorem setTestPattern_control : ControlCommand .setTestPattern legalPattern regTestPattern
    (fun s => testPatternValue s.a0) (fun s => { s with ctlTp := s.a0 }) :=
  ⟨rfl, fun _ _ => rfl, fun _ _ => rfl, fun _ _ => rfl⟩

/-! ### The ranges (R201) -/

section
variable (s : State)

theorem legalSwitch_iff : legalSwitch s = true ↔ s.larg.r0.toNat ≤ 1 := decide_eq_true_iff

theorem legalGain_iff : legalGain s = true ↔ 16 ≤ s.larg.r0.toNat ∧ s.larg.r0.toNat ≤ 64 := decide_eq_true_iff

theorem legalExposure_iff : legalExposure s = true ↔
    expMin s.params.variant ≤ s.larg.r0.toNat ∧ s.larg.r0.toNat ≤ expMax s.params.variant := decide_eq_true_iff

theorem legalPattern_iff : legalPattern s = true ↔ s.larg.r0.toNat ≤ 1023 := decide_eq_true_iff

end

/-! ### The auto-gain switch (R202) -/

section
variable {a : Word}

theorem eq_zero_or_one_of_toNat_le_one (h : a.toNat ≤ 1) : a = 0 ∨ a = 1 := by
  bv_omega

theorem gainSwitch_eq_decide (h : a.toNat ≤ 1) : gainSwitch a = decide (a = 1) := by
  obtain rfl | rfl := eq_zero_or_one_of_toNat_le_one h <;> rfl

theorem withAgc_gainSwitch (shadow : Word) (h : a.toNat ≤ 1) :
    withAgc shadow (gainSwitch a) = (shadow &&& 0xFFFD) ||| (a <<< 1) := by
  obtain rfl | rfl := eq_zero_or_one_of_toNat_le_one h <;> rfl

end

/-! ### Settled obligations -/

/-- Settles O17: the cases of a control command, with the operand's switch and bit 1 of the written word read off the
operand's two legal values. -/
theorem setAutoGain : Obligations.SetAutoGain := by
  refine ⟨by decide, fun s hs => ?_⟩
  intro v
  have hv : s.larg.r0.toNat ≤ 1 → withAgc s.shadowAa (gainSwitch s.a0) = v := withAgc_gainSwitch s.shadowAa
  refine ⟨fun h => ?_, fun h hcold => ?_, fun d rest h hcount hin => ?_, fun rest h hcount hin => ?_⟩
  · exact setAutoGain_control.exec_of_illegal hs (mt (legalSwitch_iff s).mp (Nat.not_le.mpr h))
  · rw [setAutoGain_control.exec_of_cold hs ((legalSwitch_iff s).mpr h) hcold, ← gainSwitch_eq_decide h]
    rfl
  · rw [setAutoGain_control.exec_of_acked hs ((legalSwitch_iff s).mpr h) hcount hin (hv h),
      ← gainSwitch_eq_decide h]
    rfl
  · exact setAutoGain_control.exec_of_failed hs ((legalSwitch_iff s).mpr h) hcount hin (hv h)

/-- Settles O18: the four results of a control command at 0x35, which has no shadow. -/
theorem setAnalogGain : Obligations.SetAnalogGain :=
  ⟨by decide, fun s hs => setAnalogGain_control.exec_of_unshadowed (by decide) (by decide) hs (legalGain_iff s)⟩

/-- Settles O20: the four results of a control command at 0x0B, which has no shadow, with the range of either
variant. -/
theorem setExposure : Obligations.SetExposure := by
  refine ⟨by decide, fun s hs => ?_⟩
  intro legal
  have hrange : legalExposure s = true ↔ legal := by
    rw [legalExposure_iff]
    cases hvariant : s.params.variant <;> simp [legal, hvariant, expMin, expMax]
  exact setExposure_control.exec_of_unshadowed (by decide) (by decide) hs hrange

/-- Settles O21: the four results of a control command at 0x7F, which has no shadow; the range is stated from above. -/
theorem setTestPattern : Obligations.SetTestPattern := by
  refine ⟨by decide, fun s hs => ?_⟩
  obtain ⟨hillegal, hlegal⟩ :=
    setTestPattern_control.exec_of_unshadowed (by decide) (by decide) hs (legalPattern_iff s)
  exact ⟨fun h => hillegal (Nat.not_le.mpr h), hlegal⟩

end Sys2Proof.Machine

/-! PROOFS. CLOSE with the pseudocode it shares with POWER_DOWN (R144, R251), ENUM_CODE, ENUM_SIZE and
SET_FRAME_INTERVAL (R252 to R254). -/

namespace Sys2Proof.Machine

/-! ### A command whose prologue is followed by a check -/

section
variable {i : Instr} {c : State → Bool} {code : ResultCode} {rest : List Action} {s : State}

theorem exec_of_rejected (hscript : scriptOf i = prologue :: raiseIf c code :: rest) (hs : s.Starts)
    (hc : c (s.advance 1) = true) : exec i s = .next (s.raise code) := by
  rw [exec_of_starts hscript hs, runActions_raiseIf_of_true _ _ hc, raise_advance]

theorem exec_of_admitted (hscript : scriptOf i = prologue :: raiseIf c code :: rest) (hs : s.Starts)
    (hc : c (s.advance 1) = false) : exec i s = .next (runActions rest 0 ((s.advance 1).advance 1)) := by
  rw [exec_of_starts hscript hs, runActions_raiseIf_of_false _ _ hc]

end

/-! ### Only SEQ moves between the actions -/

section
variable (s : State) (n : Nat)

theorem withCount_advance (v : Word) : (s.advance n).withCount v = (s.withCount v).advance n := rfl

theorem resPair_advance (a b : Word) : (s.advance n).resPair a b = (s.resPair a b).advance n := rfl

@[simp] theorem intervalLegal_advance : (s.advance n).intervalLegal = s.intervalLegal := rfl

end

/-! ### The release pseudocode, for either command that has it -/

theorem runActions_skipIf_of_true {c : State → Bool} {s : State} (as : List Action) (n : Nat) (h : c s = true) :
    runActions (skipIf c n :: as) 0 s = runActions as n (s.advance (n + 1)) :=
  runActions_of_go as (skipIf_of_true n h)

theorem runActions_skipIf_of_false {c : State → Bool} {s : State} (as : List Action) (n : Nat) (h : c s = false) :
    runActions (skipIf c n :: as) 0 s = runActions as 0 (s.advance 1) :=
  runActions_of_go as (skipIf_of_false n h)

section
variable {i : Instr} {s : State} (hscript : scriptOf i = releaseScript) (hs : s.Starts)
include hscript hs

theorem exec_release_of_unpowered (hcount : s.powerCount = 0) : exec i s = .next (s.raise .precondition) := by
  refine exec_of_rejected hscript hs ?_
  simpa using (powered_eq_false_iff (s.advance 1)).mpr hcount

/-- Behind the power check a counted controller goes to the branch on its last count. -/
theorem exec_release_of_powered (hcount : s.powerCount ≠ 0) :
    exec i s = .next (runActions (skipIf (fun u => u.powerCount != 1) physOff.length :: physOff ++
      [update (fun u => u.withCount (u.powerCount - 1)), completeOk]) 0 ((s.advance 1).advance 1)) := by
  refine exec_of_admitted hscript hs ?_
  simpa using (powered_eq_true_iff (s.advance 1)).mpr hcount

theorem exec_release_of_last (hcount : s.powerCount = 1) :
    exec i s = .next (({ s with clkEn := false, powerCount := 0 }.emit .clkOff).complete .ok) := by
  have hlast : (((s.advance 1).advance 1).powerCount != 1) = false := by simp [hcount]
  rw [exec_release_of_powered hscript hs (by simp [hcount]), List.cons_append, runActions_skipIf_of_false _ _ hlast,
    physOff, List.singleton_append, clockDisable, runActions_update, runActions_update, runActions_completeOk,
    complete_advance]
  simp [State.withCount, State.emit, State.complete, hcount]

/-- Above count 1 the clock action is passed over, and only the count goes down. -/
theorem exec_release_of_shared (hcount : 1 < s.powerCount.toNat) :
    exec i s = .next ((s.withCount (s.powerCount - 1)).complete .ok) := by
  have hpow : s.powerCount ≠ 0 := by bv_omega
  have hne : s.powerCount ≠ 1 := by bv_omega
  have hshared : (((s.advance 1).advance 1).powerCount != 1) = true := by simpa using hne
  rw [exec_release_of_powered hscript hs hpow, List.cons_append, runActions_skipIf_of_true _ _ hshared, physOff,
    List.singleton_append, List.length_singleton, runActions_skip, runActions_update, runActions_completeOk,
    complete_advance]
  simp only [State.advance_powerCount, withCount_advance, complete_advance]

end

/-! ### The enumerations and the frame interval -/

section
variable {s : State}

theorem exec_enumCode_of_zero (hs : s.Starts) (hindex : s.larg.r0 = 0) :
    exec .enumCode s = .next ({ s with res := { s.res with r0 := fmtCode } }.complete .ok) := by
  have hcheck : ((s.advance 1).a0 != 0) = false := by simpa [State.a0] using hindex
  rw [exec_of_admitted rfl hs hcheck, runActions_completeWith]
  rfl

theorem exec_enumCode_of_nonzero (hs : s.Starts) (hindex : s.larg.r0 ≠ 0) :
    exec .enumCode s = .next (s.raise .invalidArgument) := by
  refine exec_of_rejected rfl hs ?_
  simpa [State.a0] using hindex

/-- An index in range reports the default extents divided by it (R253). -/
theorem exec_enumSize_of_listed (hs : s.Starts) (hlow : 1 ≤ s.larg.r0.toNat) (hhigh : s.larg.r0.toNat ≤ 8) :
    exec .enumSize s = .next ((s.resPair (752 / s.larg.r0) (480 / s.larg.r0)).complete .ok) := by
  have hcheck : decide ((s.advance 1).a0.toNat < sizeIndexMin ∨ sizeIndexMax < (s.advance 1).a0.toNat) = false :=
    decide_eq_false (not_or.mpr ⟨Nat.not_lt.mpr hlow, Nat.not_lt.mpr hhigh⟩)
  rw [exec_of_admitted rfl hs hcheck, runActions_completeWith]
  simp only [resPair_advance, complete_advance, State.a0, State.advance_larg, defaultWidth, defaultHeight]

theorem exec_enumSize_of_unlisted (hs : s.Starts) (hindex : s.larg.r0.toNat < 1 ∨ 8 < s.larg.r0.toNat) :
    exec .enumSize s = .next (s.raise .invalidArgument) :=
  exec_of_rejected rfl hs (decide_eq_true hindex)

theorem intervalLegal_iff (s : State) :
    s.intervalLegal = true ↔ s.larg.r0 = 1 ∧ 4 ≤ s.larg.r1.toNat ∧ s.larg.r1.toNat ≤ 60 := decide_eq_true_iff

theorem exec_setFrameInterval_of_legal (hs : s.Starts) (hlegal : s.intervalLegal = true) :
    exec .setFrameInterval s =
      .next (({ s with fiDen := s.larg.r1.setWidth 8 }.resPair 1 s.larg.r1).complete .ok) := by
  have hcheck : (!(s.advance 1).intervalLegal) = false := by simp [hlegal]
  rw [exec_of_admitted rfl hs hcheck, runActions_update, runActions_completeWith]
  simp only [State.advance, State.resPair, State.complete, State.a1]

theorem exec_setFrameInterval_of_illegal (hs : s.Starts) (hillegal : ¬ s.intervalLegal = true) :
    exec .setFrameInterval s = .next (s.raise .invalidArgument) := by
  refine exec_of_rejected rfl hs ?_
  simpa using hillegal

end

/-! ### Settled obligations -/

/-- Settles O30: CLOSE has the release pseudocode, whose three branches are the three counts. -/
theorem closeReleases : Obligations.CloseReleases :=
  ⟨by decide, fun _ hs =>
    ⟨exec_release_of_unpowered rfl hs, exec_release_of_last rfl hs, exec_release_of_shared rfl hs⟩⟩

/-- Settles O45: ENUM_CODE on either side of its index check. -/
theorem enumCode : Obligations.EnumCode :=
  ⟨by decide, fun _ hs => ⟨exec_enumCode_of_zero hs, exec_enumCode_of_nonzero hs⟩⟩

/-- Settles O46: each row of the spec's table has an index in range and holds 752 and 480 divided by it. -/
theorem enumSize : Obligations.EnumSize := by
  refine ⟨by decide, fun s hs => ⟨fun p hp hindex => ?_, exec_enumSize_of_unlisted hs⟩⟩
  have hrow : 1 ≤ p.1.toNat ∧ p.1.toNat ≤ 8 ∧ 752 / p.1 = p.2.1 ∧ 480 / p.1 = p.2.2 := by
    clear hindex
    revert p
    simp
  obtain ⟨hlow, hhigh, hwidth, hheight⟩ := hrow
  rw [exec_enumSize_of_listed hs (hindex ▸ hlow) (hindex ▸ hhigh), hindex, hwidth, hheight]
  rfl

/-- Settles O47: SET_FRAME_INTERVAL on either side of its fraction check. -/
theorem setFrameInterval : Obligations.SetFrameInterval :=
  ⟨by decide, fun s hs =>
    ⟨fun h => exec_setFrameInterval_of_legal hs ((intervalLegal_iff s).mpr h),
      fun h => exec_setFrameInterval_of_illegal hs (mt (intervalLegal_iff s).mp h)⟩⟩

end Sys2Proof.Machine

/-! PROOFS. RESOURCE_ERROR (R276): what every command does on a failed or detached controller. -/

namespace Sys2Proof.Machine

/-- Settles O13: every script opens with the prologue, which raises RESOURCE_ERROR and halts (`exec_of_dead`); the
raise writes RESULT, BUSY and SEQ and nothing else (R274). -/
theorem resourceErrorRunsNothing : Obligations.ResourceErrorRunsNothing := fun i s hready hdead =>
  calc exec i s
    _ = .next (s.raise .resourceError) := exec_of_dead i hready hdead
    _ = .next { s with result := .resourceError, busy := false, seq := none } := rfl

end Sys2Proof.Machine

/-! PROOFS. While rst is asserted (R302): what a host access does then, the register block as reset leaves it, and what
the inputs do to a controller that is held in reset with nothing running. -/

namespace Sys2Proof.Machine

/-! ### A host write under rst -/

theorem hostWrite_of_rst {s : State} (hrst : s.rst = true) (offset : Byte) (v : Word32) : s.hostWrite offset v = s := by
  simp [State.hostWrite, hrst]

/-! ### The register block as reset leaves it -/

theorem status_assertRst (s : State) (ok : Bool) : (s.assertRst ok).status = if ok = false then 0x10 else 0 := by
  cases ok <;> simp [State.status, flagAt, resultBits]

/-- Reset leaves 0 in every word of the register block but STATUS, which shows FAILED (R57, R75). -/
theorem wordAt_assertRst (s : State) (ok : Bool) (k : Nat) :
    (s.assertRst ok).wordAt k = if k = 1 ∧ ok = false then 0x10 else 0 := by
  match k with
  | 1 => simp [State.wordAt, status_assertRst]
  | 0 | 2 | 3 | 4 | 5 | 6 | 7 | 8 | 9 | 10 | 11 => rfl
  | _ + 12 => simp [State.wordAt]

/-! ### The sequencer with nothing running -/

theorem sequencerTurn_of_not_running {s : State} (hr : s.running = false) : sequencerTurn s = .next s := by
  simp [sequencerTurn, hr]

theorem sequencerAction_of_not_running {s : State} (hr : s.running = false) : sequencerAction s = s := by
  simp [sequencerAction, hr]

theorem step_of_reply_of_not_running {s : State} {r : Reply} {rest : List Input} (hr : s.running = false)
    (h : s.inputs = .reply r :: rest) : step s = .next { s with inputs := rest } := by
  simp [step, nextStep, busResponse, h, hr]

/-- An access, a turn, an action or a response, taken under rst with nothing running, changes only the record. -/
theorem step_under_rst {s : State} (hrst : s.rst = true) (hr : s.running = false) {x : Input} (rest : List Input)
    (hlow : x ≠ .rstLow) (hhigh : ∀ b, x ≠ .rstHigh b) :
    ∃ log, step { s with inputs := x :: rest } = .next { s with inputs := rest, log := log } := by
  cases x with
  | access a =>
    rw [step_of_access rfl]
    cases a with
    | read offset => exact ⟨_, rfl⟩
    | write offset v => exact ⟨s.log, congrArg _ (hostWrite_of_rst (s := { s with inputs := rest }) hrst offset v)⟩
  | turn => exact ⟨s.log, (step_of_turn rfl).trans (sequencerTurn_of_not_running (s := { s with inputs := rest }) hr)⟩
  | action =>
    rw [step_of_action rfl]
    exact ⟨s.log, congrArg _ (sequencerAction_of_not_running (s := { s with inputs := rest }) hr)⟩
  | reply r => exact ⟨s.log, step_of_reply_of_not_running (s := { s with inputs := .reply r :: rest }) hr rfl⟩
  | rstHigh b => exact absurd rfl (hhigh b)
  | rstLow => exact absurd rfl hlow

/-! ### Settled obligations -/

/-- Settles O10: the ignored write, the reset values by word number, and the frame of every input but rst's; a
controller that reset has just loaded runs nothing. -/
theorem rstHoldsOffTheHost : Obligations.RstHoldsOffTheHost := by
  refine ⟨fun s offset v rest hrst hin => ?_, fun s ok offset => ?_, fun s ok => ⟨rfl, rfl⟩,
    fun s ok x rest hlow hhigh => step_under_rst (s := s.assertRst ok) rfl rfl rest hlow hhigh⟩
  · rw [step_of_access hin, State.hostAccess, hostWrite_of_rst (s := { s with inputs := rest }) hrst]
  · rw [hostWord_eq_wordAt, wordAt_assertRst]

end Sys2Proof.Machine

/-! PROOFS. The encoding inverts decoding (R110, R114, R120), and the bytes on the wire (R84 to R86). -/

namespace Sys2Proof

/-! ### A word is its three fields -/

theorem eq_of_fields_eq {w v : Word32} (hop : opcodeField w = opcodeField v) (htarget : targetField w = targetField v)
    (hrsvd : reservedField w = reservedField v) : w = v := by
  refine BitVec.eq_of_getLsbD_eq fun k hk => ?_
  rcases Nat.lt_trichotomy k 8 with hlow | rfl | hhigh
  · have hbit := congrArg (BitVec.getLsbD · k) hop
    simpa [opcodeField, hlow] using hbit
  · exact htarget
  · have hbit := congrArg (BitVec.getLsbD · (k - 9)) hrsvd
    have hsum : 9 + (k - 9) = k := by omega
    have hfits : k - 9 < 23 := by omega
    simpa [reservedField, hsum, hfits] using hbit

/-- Every command's word holds its fields and reads back (R110, R114). -/
theorem encodesInFields (i : Instr) : Laws.EncodesInFields.Statement i := by
  cases i with
  | powerUp => exact Laws.EncodesInFields.powerUp
  | powerDown => exact Laws.EncodesInFields.powerDown
  | teardown => exact Laws.EncodesInFields.teardown
  | setCrop w => exact Laws.EncodesInFields.setCrop w
  | getCrop w => exact Laws.EncodesInFields.getCrop w
  | setFormat w => exact Laws.EncodesInFields.setFormat w
  | getFormat w => exact Laws.EncodesInFields.getFormat w
  | setAutoGain => exact Laws.EncodesInFields.setAutoGain
  | setAnalogGain => exact Laws.EncodesInFields.setAnalogGain
  | setAutoExposure => exact Laws.EncodesInFields.setAutoExposure
  | setExposure => exact Laws.EncodesInFields.setExposure
  | setTestPattern => exact Laws.EncodesInFields.setTestPattern
  | streamOn => exact Laws.EncodesInFields.streamOn
  | streamOff => exact Laws.EncodesInFields.streamOff
  | openSession => exact Laws.EncodesInFields.openSession
  | closeSession => exact Laws.EncodesInFields.closeSession
  | enumCode => exact Laws.EncodesInFields.enumCode
  | enumSize => exact Laws.EncodesInFields.enumSize
  | setFrameInterval => exact Laws.EncodesInFields.setFrameInterval
  | getFrameInterval => exact Laws.EncodesInFields.getFrameInterval

theorem decode_encode (i : Instr) : decode (encode i) = .command i := by
  obtain ⟨hop, htarget, hrsvd, hcommand, hallowed⟩ := encodesInFields i
  rw [decode_eq_command_iff, hop, htarget]
  exact ⟨hrsvd, hcommand, hallowed⟩

theorem eq_encode_of_decode {w : Word32} {i : Instr} (h : decode w = .command i) : w = encode i := by
  obtain ⟨hop, htarget, hrsvd, -, -⟩ := encodesInFields i
  obtain ⟨hreserved, -, -⟩ := decode_eq_command_iff.mp h
  refine eq_of_fields_eq ?_ ?_ (hreserved.trans hrsvd.symm)
  · rw [hop, ← BitVec.toNat_inj, opcodeField_toNat, opcodeOf_decode h]
  · rw [htarget, Bool.eq_iff_iff, targetField_eq_true_iff, targetBitOf_decode h]

end Sys2Proof

namespace Sys2Proof.Machine

/-- Settles O2: `encode` is a right inverse of `decode` (`decode_encode`), and the only one, since the three fields that
decoding reads make up the word (`eq_encode_of_decode`). -/
theorem decodeReadsExactlyTheEncodings : Obligations.DecodeReadsExactlyTheEncodings := by
  refine fun w i => ⟨eq_encode_of_decode, ?_⟩
  rintro rfl
  exact decode_encode i

/-- Settles O1: each word of the table is its command's encoding, so it decodes to the command. -/
theorem commandWordsDecode : Obligations.CommandWordsDecode := by
  intro p hp
  have hword : encode p.2 = p.1 := by
    revert p
    decide
  exact ⟨hword ▸ decode_encode p.2, hword⟩

/-! ### Bytes on the wire -/

theorem highByte_eq (v : Word) : highByte v = BitVec.ofNat 8 (v.toNat / 256) := by
  apply BitVec.eq_of_toNat_eq
  simp [highByte, Nat.shiftRight_eq_div_pow]

theorem lowByte_eq (v : Word) : lowByte v = BitVec.ofNat 8 v.toNat := by
  apply BitVec.eq_of_toNat_eq
  simp [lowByte]

theorem addressByte_eq (device : BitVec 7) (readBit : Bool) :
    addressByte device readBit = BitVec.ofNat 8 (2 * device.toNat + if readBit then 1 else 0) := by
  have hshift : device.setWidth 8 <<< 1 &&& 1 = 0 := by
    refine BitVec.eq_of_getLsbD_eq fun k hk => ?_
    interval_cases k <;> simp
  have hdevice : device.toNat < 128 := device.isLt
  apply BitVec.eq_of_toNat_eq
  cases readBit
  · simp [addressByte, Nat.shiftLeft_eq, Nat.mul_comm]
  · simp only [addressByte, if_true]
    rw [← BitVec.add_eq_or_of_and_eq_zero _ _ hshift]
    simp [BitVec.toNat_add, Nat.shiftLeft_eq]
    omega

theorem wordOfWire_bytes (d : Word) : wordOfWire (highByte d) (lowByte d) = d := by
  refine BitVec.eq_of_getLsbD_eq fun k hk => ?_
  rcases Nat.lt_or_ge k 8 with hlow | hhigh
  · simp [wordOfWire, highByte, lowByte, hlow, hk]
  · have hsum : 8 + (k - 8) = k := by omega
    have hfits : k - 8 < 8 := by omega
    simp [wordOfWire, highByte, lowByte, hk, hsum, hfits, Nat.not_lt.mpr hhigh]

/-- Settles O15: the framing from the bytes of a word and of an address, as numbers. -/
theorem wireFraming : Obligations.WireFraming := by
  intro dev r v d
  refine ⟨?_, ?_, ?_⟩
  · simp [Transaction.wire, addressByte_eq, highByte_eq, lowByte_eq]
  · simp [Transaction.wire, addressByte_eq, highByte_eq, lowByte_eq]
  · rw [← highByte_eq, ← lowByte_eq, wordOfWire_bytes]

/-! ### TEST_PATTERN values -/

/-- The low bits of a selector and the fixed high bits of its register value do not overlap, so they add. -/
theorem testPatternValue_of_large {n : Word} (h : n.toNat ≤ 1023) :
    (1#16 <<< 14 ||| 1#16 <<< 13 ||| 1#16 <<< 10 ||| (n &&& 0x3FF)).toNat = 2 ^ 14 + 2 ^ 13 + 2 ^ 10 + n.toNat := by
  have hmask : n &&& 0x3FF = n := by
    apply BitVec.eq_of_toNat_eq
    rw [BitVec.toNat_and]
    exact (Nat.and_two_pow_sub_one_eq_mod n.toNat 10).trans (Nat.mod_eq_of_lt (by omega))
  have hdisjoint : (1#16 <<< 14 ||| 1#16 <<< 13 ||| 1#16 <<< 10) &&& n = 0 := by
    rw [← hmask, BitVec.and_comm, BitVec.and_assoc]
    exact BitVec.and_zero
  rw [hmask, ← BitVec.add_eq_or_of_and_eq_zero _ _ hdisjoint, BitVec.toNat_add_of_lt (by simp; omega)]
  simp

theorem testPatternValue_of_small {n : Word} (hpos : n.toNat ≠ 0) (h : n.toNat ≤ 3) :
    (n <<< 11 ||| 1#16 <<< 13).toNat = n.toNat * 2 ^ 11 + 2 ^ 13 := by
  have hn : n = 1 ∨ n = 2 ∨ n = 3 := by bv_omega
  rcases hn with rfl | rfl | rfl <;> rfl

/-- Settles O22: the three ranges of the selector. -/
theorem testPatternValues : Obligations.TestPatternValues := by
  intro n hn
  unfold testPatternValue
  split
  · rfl
  · split
    · exact testPatternValue_of_small ‹_› ‹_›
    · exact testPatternValue_of_large hn

end Sys2Proof.Machine

/-! PROOFS. The step, reset, single actions and the sequencer's invariant (R31, R58, R72, R90, R300), and the doubtful
writes of a record (R278). -/

namespace Sys2Proof.Machine

/-! ### What each input makes the sequencer do -/

theorem step_of_reply {s : State} {r : Reply} {rest : List Input} (hr : s.running = true) (hb : s.bus.isSome = true)
    (h : s.inputs = .reply r :: rest) : step s = sequencerTurn s := by
  simp [step, nextStep, busResponse, h, hr, hb]

theorem step_of_stray_reply {s : State} {r : Reply} {rest : List Input} (hb : s.bus = none)
    (h : s.inputs = .reply r :: rest) : step s = .next { s with inputs := rest } := by
  simp [step, nextStep, busResponse, h, hb]

theorem step_of_rstHigh {s : State} {ok : Bool} {rest : List Input} (h : s.inputs = .rstHigh ok :: rest) :
    step s = .next ({ s with inputs := rest }.assertRst ok) := by
  simp [step, nextStep, h]

theorem step_of_rstLow {s : State} {rest : List Input} (h : s.inputs = .rstLow :: rest) :
    step s = .next { s with inputs := rest }.releaseRst := by
  simp [step, nextStep, h]

theorem sequencerTurn_of_command {s : State} {i : Instr} (hr : s.running = true) (hd : decode s.cmd = .command i) :
    sequencerTurn s = exec i s := by
  simp [sequencerTurn, hr, hd]

theorem sequencerAction_of_command {s : State} {i : Instr} (hr : s.running = true) (hd : decode s.cmd = .command i) :
    sequencerAction s = runAction (scriptOf i) s := by
  simp [sequencerAction, hr, hd]

/-- Settles O4: each way the sequencer moves, with the word it decodes. -/
theorem stepRunsDecodedCommand : Obligations.StepRunsDecodedCommand := by
  intro s i hr hd
  refine ⟨fun hin => ?_, fun rest hin => ?_, fun r rest hin hb => ?_, fun rest hin => ?_⟩
  · rw [step_of_no_input hin, sequencerTurn_of_command hr hd]
  · rw [step_of_turn hin, sequencerTurn_of_command (s := { s with inputs := rest }) hr hd]
  · rw [step_of_reply hr hb hin, sequencerTurn_of_command hr hd]
  · rw [step_of_action hin, sequencerAction_of_command (s := { s with inputs := rest }) hr hd]

theorem hostWrite_cmd {s : State} {offset : Byte} (w : Word32) (hrst : s.rst = false) (hcmd : offset.toNat / 4 = 0) :
    s.hostWrite offset w = if s.busy then s else s.accept w := by
  have hword : offset &&& 0xFC = offCmd := (and_wordMask_eq_iff (o := offCmd) (k := 0) rfl offset).mpr hcmd
  simp only [State.hostWrite]
  rw [if_neg (by simp [hrst]), if_pos hword]

/-- Settles O5: the CMD write on either side of BUSY. -/
theorem cmdWriteAcceptedOnlyWhenIdle : Obligations.CmdWriteAcceptedOnlyWhenIdle := by
  intro s offset w rest hrst hcmd hin
  rw [step_of_access hin, State.hostAccess, hostWrite_cmd (s := { s with inputs := rest }) w hrst hcmd]
  refine ⟨fun hidle => ?_, fun hbusy => ?_⟩
  · rw [if_neg (by simp [hidle])]
    rfl
  · rw [if_pos hbusy]

/-- Settles O9: the steps of asserting and releasing rst, and of a response with nothing in flight. -/
theorem resetLoadsEveryElement : Obligations.ResetLoadsEveryElement :=
  ⟨fun _ _ _ hin => step_of_rstHigh hin, fun _ _ hin => step_of_rstLow hin, fun _ _ _ hb hin =>
    step_of_stray_reply hb hin⟩

theorem sequencerTurn_answers_next (s : State) : ∃ t, sequencerTurn s = .next t := by
  rcases sequencerTurn_cases s with ⟨-, h⟩ | ⟨-, why, -, h⟩ | ⟨-, i, -, h⟩ <;> exact ⟨_, h⟩

/-- Settles O11: no case of a step or of a command's meaning is anything but a next state. -/
theorem everyStepAnswersNext : Obligations.EveryStepAnswersNext := by
  refine ⟨fun s => ?_, fun i s => ⟨_, exec_eq_runScript i s⟩⟩
  rcases step_cases s with ⟨-, h⟩ | ⟨a, rest, -, h⟩ | ⟨rest, -, h⟩ | ⟨rest, -, h⟩ | ⟨r, rest, -, -, -, h⟩ |
    ⟨r, rest, -, -, h⟩ | ⟨ok, rest, -, h⟩ | ⟨rest, -, h⟩ <;> rw [h]
  case inl | inr.inr.inl | inr.inr.inr.inr.inl => exact sequencerTurn_answers_next _
  all_goals exact ⟨_, rfl⟩

/-! ### The sequencer's invariant, by itself -/

theorem sequencerInv_assertRst (s : State) (ok : Bool) : (s.assertRst ok).SequencerInv :=
  ⟨rfl, nofun, .inl rfl, fun _ => rfl⟩

/-- Settles O52: every input and every single action keeps the sequencer's invariant. -/
theorem sequencerInvariantKept : Obligations.SequencerInvariantKept := by
  intro s t h hs
  refine step_keeps State.SequencerInv ?inputs ?access ?assert ?release ?illegal ?action h hs
  case inputs => exact fun s l h => sequencerInv_traffic h s.arg l s.log
  case access => exact fun s a h => sequencerInv_hostAccess a h
  case assert => exact fun s ok _ => sequencerInv_assertRst s ok
  case release => exact fun s h => sequencerInv_releaseRst h
  case illegal =>
    exact fun s why _ hd h => sequencerInv_complete _ (sequencerInv_bus_none h (nextTransaction_of_illegal hd))
  case action => exact fun s i hr hd h => sequencerInv_performed h hr (performed_runAction hd)

/-! ### Doubtful writes of a record (R278) -/

theorem doubtfulWrites_of_issue (log : List Event) (t : Transaction) :
    doubtfulWrites (log ++ [.bus t]) = doubtfulWrites log := by
  unfold doubtfulWrites
  generalize (none : Option (Byte × Word)) = pending
  induction log generalizing pending with
  | nil => rfl
  | cons e log ih =>
    cases e with
    | answer x => cases x <;> simp [doubtfulFrom, ih]
    | _ => simp [doubtfulFrom, ih]

/-- A write, the host reads while it waits, and what ends it add to the doubtful writes what the end says of it. -/
theorem doubtfulWrites_of_write (log : List Event) (dev : BitVec 7) (r : Byte) (v : Word)
    (reads : List (Byte × Word32)) (e : Event) :
    doubtfulWrites (log ++ .bus ⟨dev, r, .write v⟩ :: reads.map (fun x => .hostRead x.1 x.2) ++ [e]) =
      doubtfulWrites log ++ doubtfulFrom (some (r, v)) [e] := by
  rw [List.append_assoc, List.cons_append, doubtfulWrites, doubtfulFrom_append, doubtfulFrom_hostReads,
    ← doubtfulWrites, doubtfulWrites_of_issue]
  rfl

/-- Settles O16: each end of the write, after any record. -/
theorem unacknowledgedWriteIsDoubtful : Obligations.UnacknowledgedWriteIsDoubtful := by
  intro log dev r v d reads issued
  refine ⟨doubtfulWrites_of_write log dev r v reads _, doubtfulWrites_of_write log dev r v reads _, ?_, fun old x => ?_⟩
  · exact (doubtfulWrites_of_write log dev r v reads _).trans (List.append_nil _)
  · simp [mayHoldAfterDoubt]

/-! ### One transaction (R84, R85, R87) -/

/-- What the record gains when a transaction is asked for. -/
def issueEvents (s : State) (t : Transaction) : List Event := if s.bus = none then [Event.bus t] else []

theorem issue_of_free {s : State} {t : Transaction} (h : s.bus = none ∨ s.bus = some t) :
    s.issue t = { s with bus := some t, log := s.log ++ issueEvents s t } := by
  rcases h with h | h
  · simp [issue_of_idle t h, issueEvents, h]
  · rw [issue_of_inFlight t h]
    have hnone : issueEvents s t = [] := if_neg (by simp [h])
    rw [hnone, List.append_nil, ← h]

/-- The three outcomes of a transaction without a shadow that nothing else keeps from going out. -/
theorem transact_outcomes {s : State} (t : State → Transaction) (f : Word → State → State)
    (hshadow : ∀ u : State, u.shadowed (t s) = u) (hfree : s.bus = none ∨ s.bus = some (t s)) :
    (∀ d rest, s.inputs = .reply (.ack d) :: rest → transact t f s = .go 0 (f d { s with
      bus := none, inputs := rest, log := s.log ++ issueEvents s (t s) ++ [.answer (.ack d)] })) ∧
    (∀ rest, s.inputs = .reply .error :: rest → transact t f s = .halt { s with
      bus := none, inputs := rest, log := s.log ++ issueEvents s (t s) ++ [.answer .error]
      errInfo := errInfoOf (t s), result := .busError, busy := false, seq := none }) ∧
    ((∀ x rest, s.inputs ≠ .reply x :: rest) →
      transact t f s = .halt { s with bus := some (t s), log := s.log ++ issueEvents s (t s) }) := by
  refine ⟨fun d rest hin => ?_, fun rest hin => ?_, fun hin => ?_⟩
  · rw [transact_of_ack t f hin, issue_of_free hfree, hshadow]
    rfl
  · rw [transact_of_error t f hin, issue_of_free hfree]
    rfl
  · rw [transact_of_silence t f hin, issue_of_free hfree]

/-- Settles O14: a write and a read are transactions, and a register without a shadow leaves the shadows. -/
theorem transactionOutcomes : Obligations.TransactionOutcomes := by
  intro s r v f hcc haa w q issue
  have hwrite (u : State) : u.shadowed w = u := shadowed_other u w hcc haa
  have hwInfo : errInfoOf w = r.setWidth 16 := by simp [errInfoOf, w]
  have hqInfo : errInfoOf q = 0x100 + r.setWidth 16 := by
    have hdisjoint : (0x100 : Word) &&& r.setWidth 16 = 0 := by
      refine BitVec.eq_of_getLsbD_eq fun k hk => ?_
      interval_cases k <;> simp
    rw [BitVec.add_eq_or_of_and_eq_zero _ _ hdisjoint]
    rfl
  refine ⟨fun hfree => ?_, fun hfree => ?_⟩
  · rw [← hwInfo]
    exact transact_outcomes (fun u => ⟨u.params.devAddr, r, .write (v u)⟩) (fun _ u => u) hwrite hfree
  · rw [← hqInfo]
    exact transact_outcomes (fun u => ⟨u.params.devAddr, r, .read⟩) f (fun u => shadowed_read u _ _) hfree

/-! ### After reset -/

theorem geometryInv_afterReset (p : Params) (ok : Bool) : (State.afterReset p ok).GeometryInv := by
  refine ⟨?_, ?_, ?_, ?_⟩ <;> simp only [State.afterReset] <;> decide

theorem cacheInv_afterReset {p : Params} (ok : Bool) (h : p.wellFormed = true) : (State.afterReset p ok).CacheInv := by
  obtain ⟨-, hden⟩ := Bool.and_eq_true_iff.mp h
  have hinterval : 4 ≤ p.fiResetDen.toNat ∧ p.fiResetDen.toNat ≤ 60 := of_decide_eq_true hden
  refine ⟨⟨by simp [State.afterReset, defaultGain], ?_, by simp [State.afterReset], hinterval, h⟩, rfl⟩
  cases hv : p.variant <;> simp [State.afterReset, hv, expMin, expMax, defaultExposure]

/-- Settles O55: the reset values against each invariant; only the frame interval's depends on the parameters. -/
theorem invariantsHoldAfterReset : Obligations.InvariantsHoldAfterReset := by
  intro p ok h s
  exact ⟨geometryInv_afterReset p ok, rfl, cacheInv_afterReset ok h, ⟨rfl, nofun, .inl rfl, nofun⟩,
    ⟨rfl, rfl, rfl⟩, ⟨rfl, rfl, rfl⟩⟩

end Sys2Proof.Machine

/-! PROOFS. The shape of every command's actions, said once: what each may write, how it may end its command, and that
it reads nothing that a host access changes. From it: which command writes what (R59), how commands end (R272), which
stay off the bus (R175, R257), that a host access does not disturb a running command (R306), that when the answers
arrive does not matter (R84, R90), and the shadow invariant (R54). -/

namespace Sys2Proof.Machine

/-! ### Who writes what -/

@[simp] def countWriters : List Instr := [.powerUp, .powerDown, .openSession, .closeSession]
@[simp] def clockWriters : List Instr := [.powerUp, .powerDown, .openSession, .closeSession, .teardown]
@[simp] def identifiers : List Instr := [.powerUp, .openSession]
@[simp] def streamWriters : List Instr := [.streamOn, .streamOff, .powerUp, .openSession]
@[simp] def shadowAaWriters : List Instr := [.setAutoGain, .setAutoExposure, .powerUp, .openSession]

/-- The commands that issue transactions. -/
@[simp] def busUsers : List Instr :=
  [.powerUp, .openSession, .setAutoGain, .setAnalogGain, .setAutoExposure, .setExposure, .setTestPattern, .streamOn,
    .streamOff]

/-- The element `f` is the same in `t` as in `s`, or command `i` is one of its writers. -/
def Kept {α : Type} (i : Instr) (writers : List Instr) (f : State → α) (s t : State) : Prop :=
  f t = f s ∨ i ∈ writers

theorem Kept.refl {α : Type} {i : Instr} {writers : List Instr} {f : State → α} (s : State) : Kept i writers f s s :=
  .inl rfl

theorem Kept.trans {α : Type} {i : Instr} {writers : List Instr} {f : State → α} {s t u : State}
    (h : Kept i writers f s t) (h' : Kept i writers f t u) : Kept i writers f s u := by
  rcases h with h | h
  · exact h'.imp_left (·.trans h)
  · exact .inr h

theorem Kept.of_not_mem {α : Type} {i : Instr} {writers : List Instr} {f : State → α} {s t : State}
    (h : Kept i writers f s t) (hi : i ∉ writers) : f t = f s := h.resolve_right hi

/-- Between `s` and `t` command `i` has written only elements that are its to write. RESULT, BUSY, SEQ, RESi and
ERRINFO are not in the list: when a command writes those depends on how its action ends. The fields fill in by
themselves for an update of other elements. -/
structure Frame (i : Instr) (s t : State) : Prop where
  params : t.params = s.params := by simp
  failed : t.failed = s.failed := by simp
  cmd : t.cmd = s.cmd := by simp
  arg : t.arg = s.arg := by simp
  larg : t.larg = s.larg := by simp
  rst : t.rst = s.rst := by simp
  powerCount : Kept i countWriters State.powerCount s t := by simp [Kept]
  clkEn : Kept i clockWriters State.clkEn s t := by simp [Kept]
  absent : Kept i identifiers State.absent s t := by simp [Kept]
  chipVer : Kept i identifiers State.chipVer s t := by simp [Kept]
  detached : Kept i [.teardown] State.detached s t := by simp [Kept]
  stream : Kept i streamWriters State.stream s t := by simp [Kept]
  shadowCc : Kept i streamWriters State.shadowCc s t := by simp [Kept]
  shadowAa : Kept i shadowAaWriters State.shadowAa s t := by simp [Kept]
  actCrop : Kept i [.setCrop .active] State.actCrop s t := by simp [Kept]
  actFmt : Kept i [.setCrop .active, .setFormat .active] State.actFmt s t := by simp [Kept]
  tryCrop : Kept i [.setCrop .attempt, .openSession] State.tryCrop s t := by simp [Kept]
  tryFmt : Kept i [.setCrop .attempt, .setFormat .attempt, .openSession] State.tryFmt s t := by simp [Kept]
  ctlAg : Kept i [.setAutoGain] State.ctlAg s t := by simp [Kept]
  ctlGain : Kept i [.setAnalogGain] State.ctlGain s t := by simp [Kept]
  ctlAe : Kept i [.setAutoExposure] State.ctlAe s t := by simp [Kept]
  ctlExp : Kept i [.setExposure] State.ctlExp s t := by simp [Kept]
  ctlTp : Kept i [.setTestPattern] State.ctlTp s t := by simp [Kept]
  fiDen : Kept i [.setFrameInterval] State.fiDen s t := by simp [Kept]
  bus : Kept i busUsers State.bus s t := by simp [Kept]
  inputs : Kept i busUsers State.inputs s t := by simp [Kept]
  log : Kept i (clockWriters ++ busUsers) State.log s t := by simp [Kept]

theorem Frame.trans {i : Instr} {s t u : State} (h : Frame i s t) (h' : Frame i t u) : Frame i s u where
  params := h'.params.trans h.params
  failed := h'.failed.trans h.failed
  cmd := h'.cmd.trans h.cmd
  arg := h'.arg.trans h.arg
  larg := h'.larg.trans h.larg
  rst := h'.rst.trans h.rst
  powerCount := h.powerCount.trans h'.powerCount
  clkEn := h.clkEn.trans h'.clkEn
  absent := h.absent.trans h'.absent
  chipVer := h.chipVer.trans h'.chipVer
  detached := h.detached.trans h'.detached
  stream := h.stream.trans h'.stream
  shadowCc := h.shadowCc.trans h'.shadowCc
  shadowAa := h.shadowAa.trans h'.shadowAa
  actCrop := h.actCrop.trans h'.actCrop
  actFmt := h.actFmt.trans h'.actFmt
  tryCrop := h.tryCrop.trans h'.tryCrop
  tryFmt := h.tryFmt.trans h'.tryFmt
  ctlAg := h.ctlAg.trans h'.ctlAg
  ctlGain := h.ctlGain.trans h'.ctlGain
  ctlAe := h.ctlAe.trans h'.ctlAe
  ctlExp := h.ctlExp.trans h'.ctlExp
  ctlTp := h.ctlTp.trans h'.ctlTp
  fiDen := h.fiDen.trans h'.fiDen
  bus := h.bus.trans h'.bus
  inputs := h.inputs.trans h'.inputs
  log := h.log.trans h'.log

/-- Command `i` goes on from `s` to `t`: it has not ended, and not written what only an end writes. -/
structure Continues (i : Instr) (s t : State) : Prop extends Frame i s t where
  busy : t.busy = s.busy := by simp
  result : t.result = s.result := by simp
  res : t.res = s.res := by simp
  errInfo : t.errInfo = s.errInfo := by simp
  running : t.running = s.running := by simp [State.running]

/-- Command `i` ends between `s` and `t`, with one of `codes`. -/
structure Ends (i : Instr) (codes : List ResultCode) (s t : State) : Prop extends Frame i s t where
  seq : t.seq = none
  busy : t.busy = false
  result : t.result ∈ codes
  res : t.result ≠ .ok → t.res = s.res
  errInfo : t.errInfo = s.errInfo ∨
    (t.result = .busError ∧ t.log.getLast? = some (.answer .error) ∧ i ∈ busUsers)

theorem Continues.refl (i : Instr) (s : State) : Continues i s s where
  toFrame := {}

theorem Continues.trans {i : Instr} {s t u : State} (h : Continues i s t) (h' : Continues i t u) :
    Continues i s u where
  toFrame := h.toFrame.trans h'.toFrame
  busy := h'.busy.trans h.busy
  result := h'.result.trans h.result
  res := h'.res.trans h.res
  errInfo := h'.errInfo.trans h.errInfo
  running := h'.running.trans h.running

theorem Continues.advance {i : Instr} {s t : State} (h : Continues i s t) (n : Nat) : Continues i s (t.advance n) :=
  h.trans { toFrame := {} }

theorem Continues.ends {i : Instr} {codes : List ResultCode} {s t u : State} (h : Continues i s t)
    (h' : Ends i codes t u) : Ends i codes s u where
  toFrame := h.toFrame.trans h'.toFrame
  seq := h'.seq
  busy := h'.busy
  result := h'.result
  res hc := (h'.res hc).trans h.res
  errInfo := h'.errInfo.imp_left (·.trans h.errInfo)

/-! ### What a host access and further inputs leave alone -/

/-- `s` with other ARG registers, with events before its record and with inputs behind its own. -/
def State.under (s : State) (q : Quad) (pre : List Event) (post : List Input) : State :=
  { s with arg := q, log := pre ++ s.log, inputs := s.inputs ++ post }

section
variable (s : State) (q : Quad) (pre : List Event) (post : List Input)

@[simp] theorem State.under_inputs : (s.under q pre post).inputs = s.inputs ++ post := rfl
@[simp] theorem State.under_seqStep : (s.under q pre post).seqStep = s.seqStep := rfl

theorem under_advance (n : Nat) : (s.under q pre post).advance n = (s.advance n).under q pre post := rfl

theorem under_issue (t : Transaction) : (s.under q pre post).issue t = (s.issue t).under q pre post := by
  cases hb : s.bus with
  | some u =>
    rw [issue_of_inFlight t hb]
    exact issue_of_inFlight t hb
  | none =>
    have hb' : (s.under q pre post).bus = none := hb
    rw [issue_of_idle t hb, issue_of_idle t hb']
    simp [State.under]

theorem under_answered (r : Reply) (rest : List Input) :
    (s.under q pre post).answered r (rest ++ post) = (s.answered r rest).under q pre post := by
  simp [State.under, State.answered]

theorem under_shadowed (t : Transaction) : (s.under q pre post).shadowed t = (s.shadowed t).under q pre post := by
  obtain ⟨dev, r, transfer⟩ := t
  cases transfer with
  | read => rfl
  | write v =>
    by_cases hcc : r = regChipControl
    · subst hcc; rfl
    · by_cases haa : r = regAecAgcEnable
      · subst haa; rfl
      · rw [shadowed_other _ _ hcc haa, shadowed_other _ _ hcc haa]

end

/-- `s` with other inputs to come. -/
def State.fed (s : State) (l : List Input) : State := { s with inputs := l }

theorem fed_issue (s : State) (l : List Input) (t : Transaction) : (s.fed l).issue t = (s.issue t).fed l := by
  cases hb : s.bus with
  | some u =>
    rw [issue_of_inFlight t hb]
    exact issue_of_inFlight t hb
  | none =>
    rw [issue_of_idle t hb]
    exact issue_of_idle t hb

theorem issue_issue (s : State) (t : Transaction) : (s.issue t).issue t = s.issue t := by
  cases hb : s.bus with
  | some u => rw [issue_of_inFlight t hb, issue_of_inFlight t hb]
  | none => exact issue_of_inFlight t (State.issue_bus_none s t hb)

/-- The change `f` neither reads nor drops what a host access and further inputs add. -/
def Commutes (f : State → State) : Prop :=
  ∀ s q pre post, f (State.under s q pre post) = (f s).under q pre post

theorem Commutes.emit (e : Event) : Commutes (fun s => s.emit e) := by
  intro s q pre post
  simp [State.under, State.emit]

theorem Commutes.installCrop (w : Target) (c : State → Crop) (hc : ∀ s q pre post, c (State.under s q pre post) = c s) :
    Commutes (fun s => s.installCrop w (c s)) := by
  intro s q pre post
  simp only [hc, installCrop_eq]
  cases w <;> rfl

/-! ### The shape of an action -/

theorem shadowInv_of_eq {s t : State} (hcc : t.shadowCc = s.shadowCc) (hstream : t.stream = s.stream)
    (h : s.ShadowInv) : t.ShadowInv := by
  rw [State.ShadowInv, hcc, hstream]
  exact h

/-- What one internal change of command `i` does: it writes its own elements only, and keeps R54. -/
structure Internal (i : Instr) (s t : State) : Prop extends Frame i s t where
  seq : t.seq = s.seq := by simp
  busy : t.busy = s.busy := by simp
  result : t.result = s.result := by simp
  res : t.res = s.res := by simp
  errInfo : t.errInfo = s.errInfo := by simp
  shadowInv : s.ShadowInv → t.ShadowInv := by exact shadowInv_of_eq (by simp) (by simp)

theorem Internal.refl (i : Instr) (s : State) : Internal i s s where
  toFrame := {}

theorem Internal.continues {i : Instr} {s t : State} (h : Internal i s t) : Continues i s t where
  toFrame := h.toFrame
  busy := h.busy
  result := h.result
  res := h.res
  errInfo := h.errInfo
  running := by simp [State.running, h.seq]

/-- The actions that the scripts are made of, with what command `i` may do by them; `codes` are the results with which
the action can end the command. -/
inductive Shape (i : Instr) (codes : List ResultCode) : Action → Prop
  | update {f : State → State} (hf : Commutes f) (h : ∀ s, Internal i s (f s)) : Shape i codes (update f)
  | raiseIf {c : State → Bool} {code : ResultCode} (hc : Blind c) (h : code ∈ codes) : Shape i codes (raiseIf c code)
  | completeIf {c : State → Bool} (hc : Blind c) (h : .ok ∈ codes) : Shape i codes (completeIf c)
  | skipIf {c : State → Bool} {n : Nat} (hc : Blind c) : Shape i codes (skipIf c n)
  | completeWith {f : State → State} (hf : Commutes f) (h : ∀ s, Internal i s { f s with res := s.res })
      (hok : .ok ∈ codes) : Shape i codes (completeWith f)
  | transact {t : State → Transaction} {onAck : Word → State → State} (ht : Blind t) (hf : ∀ d, Commutes (onAck d))
      (h : ∀ d s, Internal i s (onAck d (s.shadowed (t s)))) (hi : i ∈ busUsers) (herr : .busError ∈ codes) :
      Shape i codes (transact t onAck)
  | onlyIf {c : State → Bool} {a : Action} (hc : Blind c) (ha : Shape i codes a) : Shape i codes (onlyIf c a)

namespace Shape

variable {i : Instr} {codes : List ResultCode} {a : Action}

theorem mono {codes' : List ResultCode} (h : Shape i codes a) (hsub : ∀ c ∈ codes, c ∈ codes') :
    Shape i codes' a := by
  induction h with
  | update hf h => exact .update hf h
  | raiseIf hc h => exact .raiseIf hc (hsub _ h)
  | completeIf hc h => exact .completeIf hc (hsub _ h)
  | skipIf hc => exact .skipIf hc
  | completeWith hf h hok => exact .completeWith hf h (hsub _ hok)
  | transact ht hf h hi herr => exact .transact ht hf h hi (hsub _ herr)
  | onlyIf hc _ ih => exact .onlyIf hc ih

end Shape

/-! ### What an action of a shape does -/

/-- The state in which an action leaves the sequencer, going on or not. -/
def Progress.state : Progress → State
  | .go _ t => t
  | .halt t => t

/-- What an action of command `i` leads to. -/
def Proceeds (i : Instr) (codes : List ResultCode) (s : State) : Progress → Prop
  | .go _ t => Continues i s t
  | .halt t => Continues i s t ∨ Ends i codes s t

theorem ends_complete {i : Instr} {codes : List ResultCode} (s : State) {c : ResultCode} (h : c ∈ codes) :
    Ends i codes s (s.complete c) where
  toFrame := {}
  seq := rfl
  busy := rfl
  result := h
  res _ := rfl
  errInfo := .inl rfl

theorem ends_completeWith {i : Instr} {codes : List ResultCode} {s t : State} (h : Internal i s { t with res := s.res })
    (hok : .ok ∈ codes) : Ends i codes s (t.complete .ok) where
  toFrame := h.toFrame.trans {}
  seq := rfl
  busy := rfl
  result := hok
  res hne := absurd rfl hne
  errInfo := .inl h.errInfo

/-- A command that uses the bus may take its bus, its inputs and its record wherever it likes. -/
theorem continues_traffic {i : Instr} (hi : i ∈ busUsers) (s : State) (b : Option Transaction) (l : List Input)
    (es : List Event) : Continues i s (s.withTraffic s.arg b l es) where
  toFrame :=
    { bus := .inr hi
      inputs := .inr hi
      log := .inr (List.mem_append_right _ hi)
      powerCount := .inl rfl, clkEn := .inl rfl, absent := .inl rfl, chipVer := .inl rfl, detached := .inl rfl
      stream := .inl rfl, shadowCc := .inl rfl, shadowAa := .inl rfl, actCrop := .inl rfl, actFmt := .inl rfl
      tryCrop := .inl rfl, tryFmt := .inl rfl, ctlAg := .inl rfl, ctlGain := .inl rfl, ctlAe := .inl rfl
      ctlExp := .inl rfl, ctlTp := .inl rfl, fiDen := .inl rfl
      params := rfl, failed := rfl, cmd := rfl, arg := rfl, larg := rfl, rst := rfl }
  busy := rfl
  result := rfl
  res := rfl
  errInfo := rfl
  running := rfl

theorem issue_eq_withTraffic (s : State) (t : Transaction) :
    ∃ b es, s.issue t = s.withTraffic s.arg b s.inputs es := by
  cases hb : s.bus with
  | some u => exact ⟨s.bus, s.log, by rw [issue_of_inFlight t hb]; rfl⟩
  | none => exact ⟨some t, s.log ++ [.bus t], by rw [issue_of_idle t hb]; rfl⟩

theorem answered_issue_eq_withTraffic (s : State) (t : Transaction) (r : Reply) (rest : List Input) :
    ∃ es, (s.issue t).answered r rest = s.withTraffic s.arg none rest es := by
  obtain ⟨b, es, h⟩ := issue_eq_withTraffic s t
  exact ⟨es ++ [.answer r], by rw [h]; rfl⟩

namespace Shape

variable {i : Instr} {codes : List ResultCode} {a : Action}

theorem proceeds (h : Shape i codes a) (s : State) : Proceeds i codes s (a s) := by
  induction h with
  | update _ h => exact (h s).continues
  | @raiseIf c code _ h =>
    cases hc : c s
    · rw [raiseIf_of_false code hc]; exact .refl i s
    · rw [raiseIf_of_true code hc]; exact .inr (ends_complete s h)
  | @completeIf c _ h =>
    cases hc : c s
    · rw [completeIf_of_false hc]; exact .refl i s
    · rw [completeIf_of_true hc]; exact .inr (ends_complete s h)
  | skipIf _ => exact .refl i s
  | completeWith _ h hok => exact .inr (ends_completeWith (h s) hok)
  | @transact t onAck ht _ h hi herr =>
    rcases transact_cases t onAck s with ⟨d, rest, -, hgo⟩ | ⟨rest, -, hgo⟩ | ⟨-, hgo⟩ <;> rw [hgo]
    · obtain ⟨es, htaken⟩ := answered_issue_eq_withTraffic s (t s) (.ack d) rest
      have hack := h d (s.withTraffic s.arg none rest es)
      rw [ht s s.arg none rest es] at hack
      rw [htaken]
      exact (continues_traffic hi s none rest es).trans hack.continues
    · obtain ⟨es, htaken⟩ := answered_issue_eq_withTraffic s (t s) .error rest
      have hlog : ((s.issue (t s)).answered .error rest).log.getLast? = some (.answer .error) := by simp
      rw [htaken] at hlog
      rw [htaken]
      exact .inr
        { toFrame := (continues_traffic hi s none rest es).toFrame.trans {}
          seq := rfl
          busy := rfl
          result := herr
          res := fun _ => rfl
          errInfo := .inr ⟨rfl, hlog, hi⟩ }
    · obtain ⟨b, es, hissued⟩ := issue_eq_withTraffic s (t s)
      rw [hissued]
      exact .inl (continues_traffic hi s b s.inputs es)
  | @onlyIf c a _ _ ih =>
    cases hc : c s
    · rw [onlyIf_of_false a hc]; exact .refl i s
    · rw [onlyIf_of_true a hc]; exact ih

/-- R54 is kept by every action. -/
theorem shadowInv (h : Shape i codes a) {s : State} (hs : s.ShadowInv) : (a s).state.ShadowInv := by
  induction h with
  | update _ h => exact (h s).shadowInv hs
  | @raiseIf c code _ _ =>
    cases hc : c s
    · rw [raiseIf_of_false code hc]; exact hs
    · rw [raiseIf_of_true code hc]; exact hs
  | @completeIf c _ _ =>
    cases hc : c s
    · rw [completeIf_of_false hc]; exact hs
    · rw [completeIf_of_true hc]; exact hs
  | skipIf _ => exact hs
  | completeWith _ h _ => exact (h s).shadowInv hs
  | @transact t onAck ht _ h _ _ =>
    rcases transact_cases t onAck s with ⟨d, rest, -, hgo⟩ | ⟨rest, -, hgo⟩ | ⟨-, hgo⟩ <;> rw [hgo]
    · obtain ⟨es, htaken⟩ := answered_issue_eq_withTraffic s (t s) (.ack d) rest
      have hack := h d (s.withTraffic s.arg none rest es)
      rw [ht s s.arg none rest es] at hack
      rw [htaken]
      exact hack.shadowInv hs
    · obtain ⟨es, htaken⟩ := answered_issue_eq_withTraffic s (t s) .error rest
      rw [htaken]
      exact hs
    · obtain ⟨b, es, hissued⟩ := issue_eq_withTraffic s (t s)
      rw [hissued]
      exact hs
  | @onlyIf c a _ _ ih =>
    cases hc : c s
    · rw [onlyIf_of_false a hc]; exact hs
    · rw [onlyIf_of_true a hc]; exact ih

end Shape

/-! ### What an action does under a host access or with further inputs -/

/-- `p` with its state changed by `f`. -/
def Progress.map (f : State → State) : Progress → Progress
  | .go n t => .go n (f t)
  | .halt t => .halt (f t)

namespace Shape

variable {i : Instr} {codes : List ResultCode} {a : Action}

theorem blind_under {α : Type} {c : State → α} (hc : Blind c) (s : State) (q : Quad) (pre : List Event)
    (post : List Input) : c (s.under q pre post) = c s := hc s q s.bus (s.inputs ++ post) (pre ++ s.log)

/-- An action does the same under a host access, and it goes on the same way with further inputs. -/
theorem apply_under (h : Shape i codes a) (s : State) (q : Quad) (pre : List Event) {post : List Input}
    (hpost : post = [] ∨ ∃ n u, a s = .go n u) :
    a (s.under q pre post) = (a s).map (·.under q pre post) := by
  induction h with
  | update hf _ => exact congrArg (Progress.go 0) (hf s q pre post)
  | @raiseIf c code hc _ =>
    have hu := blind_under hc s q pre post
    cases hcs : c s
    · rw [raiseIf_of_false code hcs, raiseIf_of_false code (hu.trans hcs)]; rfl
    · rw [raiseIf_of_true code hcs, raiseIf_of_true code (hu.trans hcs)]; rfl
  | @completeIf c hc _ =>
    have hu := blind_under hc s q pre post
    cases hcs : c s
    · rw [completeIf_of_false hcs, completeIf_of_false (hu.trans hcs)]; rfl
    · rw [completeIf_of_true hcs, completeIf_of_true (hu.trans hcs)]; rfl
  | @skipIf c n hc =>
    have hu := blind_under hc s q pre post
    cases hcs : c s
    · rw [skipIf_of_false n hcs, skipIf_of_false n (hu.trans hcs)]; rfl
    · rw [skipIf_of_true n hcs, skipIf_of_true n (hu.trans hcs)]; rfl
  | @completeWith f hf _ _ =>
    rw [completeWith_apply, completeWith_apply, hf]
    rfl
  | @transact t onAck ht hf _ _ _ =>
    have hu : t (s.under q pre post) = t s := blind_under ht s q pre post
    rcases transact_cases t onAck s with ⟨d, rest, hin, hgo⟩ | ⟨rest, hin, hgo⟩ | ⟨hin, hgo⟩
    · have hin' : (s.under q pre post).inputs = .reply (.ack d) :: (rest ++ post) := by simp [hin]
      rw [hgo, transact_of_ack t onAck hin', hu, under_issue, under_answered, under_shadowed, hf]
      rfl
    · have hin' : (s.under q pre post).inputs = .reply .error :: (rest ++ post) := by simp [hin]
      rw [hgo, transact_of_error t onAck hin', hu, under_issue, under_answered]
      rfl
    · have hnil : post = [] := by
        rcases hpost with hpost | ⟨n, u, hpost⟩
        · exact hpost
        · rw [hgo] at hpost; cases hpost
      subst hnil
      have hin' : ∀ r rest, (s.under q pre []).inputs ≠ .reply r :: rest := by simpa using hin
      rw [hgo, transact_of_silence t onAck hin', hu, under_issue]
      rfl
  | @onlyIf c a hc _ ih =>
    have hu := blind_under hc s q pre post
    cases hcs : c s
    · rw [onlyIf_of_false a hcs, onlyIf_of_false a (hu.trans hcs)]; rfl
    · rw [onlyIf_of_true a hcs] at hpost ⊢
      rw [onlyIf_of_true a (hu.trans hcs)]
      exact ih hpost

theorem transact_congr {t : State → Transaction} (onAck : Word → State → State) {x y : State} (ht : t x = t y)
    (hissue : x.issue (t x) = y.issue (t x)) : Machine.transact t onAck x = Machine.transact t onAck y := by
  simp only [Machine.transact]
  rw [← ht, ← hissue]

/-- An action that halts without ending the command waits for its transaction, and does with any inputs what it does
from where it began to wait (R84, R90). -/
theorem resumes (h : Shape i codes a) {s u : State} (hhalt : a s = .halt u) (hr : u.running = true) :
    (∃ b es, u = s.withTraffic s.arg b s.inputs es) ∧ ∀ l, a (u.fed l) = a (s.fed l) := by
  induction h with
  | update _ _ => cases hhalt
  | @raiseIf c code _ _ =>
    cases hc : c s
    · rw [raiseIf_of_false code hc] at hhalt; cases hhalt
    · rw [raiseIf_of_true code hc] at hhalt; cases hhalt; cases hr
  | @completeIf c _ _ =>
    cases hc : c s
    · rw [completeIf_of_false hc] at hhalt; cases hhalt
    · rw [completeIf_of_true hc] at hhalt; cases hhalt; cases hr
  | skipIf _ => cases hhalt
  | completeWith _ _ _ => cases hhalt; cases hr
  | @transact t onAck ht _ _ _ _ =>
    rcases transact_cases t onAck s with ⟨d, rest, -, hgo⟩ | ⟨rest, -, hgo⟩ | ⟨-, hgo⟩ <;> rw [hgo] at hhalt <;>
      cases hhalt
    · cases hr
    · refine ⟨issue_eq_withTraffic s (t s), fun l => ?_⟩
      have hs : t (s.fed l) = t s := ht s s.arg s.bus l s.log
      have hu : t ((s.issue (t s)).fed l) = t s := by
        obtain ⟨b, es, hissued⟩ := issue_eq_withTraffic s (t s)
        rw [hissued]
        exact ht s s.arg b l es
      refine transact_congr onAck (hu.trans hs.symm) ?_
      rw [hu, fed_issue, fed_issue, issue_issue]
  | @onlyIf c a hc _ ih =>
    cases hcs : c s
    · rw [onlyIf_of_false a hcs] at hhalt; cases hhalt
    · rw [onlyIf_of_true a hcs] at hhalt
      obtain ⟨⟨b, es, rfl⟩, hl⟩ := ih hhalt
      refine ⟨⟨b, es, rfl⟩, fun l => ?_⟩
      have hwaiting : c ((s.withTraffic s.arg b s.inputs es).fed l) = true := (hc s s.arg b l es).trans hcs
      have hfed : c (s.fed l) = true := (hc s s.arg s.bus l s.log).trans hcs
      rw [onlyIf_of_true a hwaiting, onlyIf_of_true a hfed]
      exact hl l

end Shape

/-! ### What a script of such actions does -/

theorem runActions_drop (as : List Action) (k n : Nat) (s : State) :
    runActions as (k + n) s = runActions (as.drop k) n s := by
  induction k generalizing as with
  | zero => simp
  | succ k ih =>
    cases as with
    | nil => simp
    | cons a as => rw [Nat.add_right_comm, runActions_skip, ih, List.drop_succ_cons]

theorem runActions_append_skip (before as : List Action) (k : Nat) (s : State) :
    runActions (before ++ as) (before.length + k) s = runActions as k s := by
  rw [runActions_drop, List.drop_left]

theorem runActions_congr {a : Action} (as : List Action) {x y : State} (h : a x = a y) :
    runActions (a :: as) 0 x = runActions (a :: as) 0 y := by
  simp only [runActions, h]

section
variable {i : Instr} {codes : List ResultCode}

theorem runActions_proceeds {as : List Action} (h : ∀ a ∈ as, Shape i codes a) (k : Nat) (s : State) :
    Continues i s (runActions as k s) ∨ Ends i codes s (runActions as k s) := by
  induction as generalizing k s with
  | nil => rw [runActions_nil]; exact .inl (.refl i s)
  | cons a as ih =>
    obtain ⟨ha, has⟩ := List.forall_mem_cons.mp h
    cases k with
    | succ k => exact ih has k s
    | zero =>
      have hstep := ha.proceeds s
      cases hg : a s with
      | go n t =>
        rw [hg] at hstep
        rw [runActions_of_go as hg]
        exact (ih has n (t.advance (n + 1))).imp (Continues.advance hstep (n + 1)).trans
          (Continues.advance hstep (n + 1)).ends
      | halt t =>
        rw [hg] at hstep
        rw [runActions_of_halt as hg]
        exact hstep

theorem runActions_under {as : List Action} (h : ∀ a ∈ as, Shape i codes a) (k : Nat) (s : State) (q : Quad)
    (pre : List Event) : runActions as k (s.under q pre []) = (runActions as k s).under q pre [] := by
  induction as generalizing k s with
  | nil => rw [runActions_nil, runActions_nil]
  | cons a as ih =>
    obtain ⟨ha, has⟩ := List.forall_mem_cons.mp h
    cases k with
    | succ k => exact ih has k s
    | zero =>
      have hstep := ha.apply_under s q pre (.inl rfl)
      cases hg : a s with
      | go n t =>
        rw [hg] at hstep
        rw [runActions_of_go as hg, runActions_of_go as hstep, under_advance]
        exact ih has n _
      | halt t =>
        rw [hg] at hstep
        rw [runActions_of_halt as hg, runActions_of_halt as hstep]

theorem under_eq_fed {s : State} (h : s.inputs = []) (l : List Input) : s.under s.arg [] l = s.fed l := by
  simp [State.under, State.fed, h]

/-- A script that waits with all its inputs used up goes on from there with further inputs as it does when those stand
behind the first ones. -/
theorem runScript_resumes {script : List Action} (h : ∀ a ∈ script, Shape i codes a) (ht : ∀ a ∈ script, Tame a)
    (l : List Input) {rest before : List Action} {k : Nat} {s : State} (hscript : before ++ rest = script)
    (hs : s.running = true) (hstep : s.seqStep = before.length + k) (hr : (runActions rest k s).running = true)
    (hin : (runActions rest k s).inputs = []) :
    runScript script ((runActions rest k s).fed l) = runActions rest k (s.under s.arg [] l) := by
  induction rest generalizing before k s with
  | nil =>
    rw [runActions_nil] at hin
    rw [runActions_nil, runActions_nil, under_eq_fed hin, ← hscript]
    change runActions _ s.seqStep _ = _
    rw [hstep, runActions_append_skip, runActions_nil]
  | cons a as ih =>
    have hmem : a ∈ script := by simp [← hscript]
    have hassoc : (before ++ [a]) ++ as = script := by simpa using hscript
    cases k with
    | succ k => exact ih hassoc hs (by simp [hstep]; omega) hr hin
    | zero =>
      cases hg : a s with
      | go n t =>
        obtain ⟨hseq, -⟩ := ht a hmem s n t hg
        obtain ⟨q, hq⟩ := Option.isSome_iff_exists.mp hs
        have harg : t.arg = s.arg := by
          have hcont := (h a hmem).proceeds s
          rw [hg] at hcont
          exact hcont.arg
        have hg' := (h a hmem).apply_under s s.arg [] (post := l) (.inr ⟨n, t, hg⟩)
        rw [hg] at hg'
        rw [runActions_of_go as hg] at hr hin
        rw [runActions_of_go as hg, runActions_of_go as hg', under_advance, ← harg]
        refine ih hassoc (by simp [State.running, hseq, hq]) ?_ hr hin
        rw [seqStep_of_seq hq] at hstep
        simp [State.seqStep, hseq, hq, hstep]
        omega
      | halt u =>
        rw [runActions_of_halt as hg] at hr hin
        obtain ⟨⟨b, es, hu⟩, hl⟩ := (h a hmem).resumes hg hr
        have hsin : s.inputs = [] := by rw [hu] at hin; exact hin
        have hustep : (u.fed l).seqStep = before.length + 0 := by rw [hu]; exact hstep
        rw [runActions_of_halt as hg, under_eq_fed hsin, runScript, hustep, ← hscript, runActions_append_skip]
        exact runActions_congr as (hl l)

/-- After one action that leaves the command running, the rest of a script leads where the whole leads. -/
theorem runScript_runAction {script : List Action} (h : ∀ a ∈ script, Shape i codes a) (ht : ∀ a ∈ script, Tame a)
    {s : State} (hs : s.running = true) (hr : (runAction script s).running = true) :
    runScript script (runAction script s) = runScript script s := by
  obtain ⟨q, hq⟩ := Option.isSome_iff_exists.mp hs
  have hstep := seqStep_of_seq hq
  cases ha : script[s.seqStep]? with
  | none => rw [runAction_of_none ha]
  | some a =>
    have hmem := List.mem_of_getElem? ha
    obtain ⟨hlt, hget⟩ := List.getElem?_eq_some_iff.mp ha
    have hdrop : script.drop s.seqStep = a :: script.drop (s.seqStep + 1) := by
      rw [List.drop_eq_getElem_cons hlt, hget]
    have hwhole : runScript script s = runActions (a :: script.drop (s.seqStep + 1)) 0 s := by
      rw [runScript, ← hdrop, ← runActions_drop, Nat.add_zero]
    cases hg : a s with
    | go n t =>
      obtain ⟨hseq, -⟩ := ht a hmem s n t hg
      have hnext : (t.advance (n + 1)).seqStep = (s.seqStep + 1) + n := by
        simp [State.seqStep, hseq, hq]
        omega
      rw [runAction_of_go ha hg, hwhole, runActions_of_go _ hg, runScript, hnext, runActions_drop]
    | halt u =>
      rw [runAction_of_halt ha hg] at hr
      obtain ⟨⟨b, es, hu⟩, hl⟩ := (h a hmem).resumes hg hr
      have hustep : u.seqStep = s.seqStep := by rw [hu]; rfl
      have hagain : a u = a s := by
        have hfed := hl s.inputs
        rwa [show u.fed s.inputs = u by rw [hu]; rfl] at hfed
      rw [runAction_of_halt ha hg, hwhole, runScript, hustep, ← Nat.add_zero s.seqStep, runActions_drop, Nat.add_zero,
        hdrop]
      exact runActions_congr _ hagain

end

end Sys2Proof.Machine

namespace Sys2Proof.Machine

/-! ### The shapes of every script -/

/-- The results with which a command can end once its resource check has passed (R272). -/
def resultsOf : Instr → List ResultCode
  | .powerUp | .openSession => [.ok, .busError, .notPresent, .precondition]
  | .powerDown | .closeSession | .teardown => [.ok, .precondition]
  | .setCrop _ | .getCrop _ | .setFormat _ | .getFormat _ | .getFrameInterval => [.ok]
  | .setAutoGain | .setAnalogGain | .setAutoExposure | .setExposure | .setTestPattern =>
    [.ok, .busError, .invalidArgument]
  | .streamOn | .streamOff => [.ok, .busError, .precondition]
  | .enumCode | .enumSize | .setFrameInterval => [.ok, .invalidArgument]

theorem blind_const {α : Type} (x : α) : Blind (fun _ => x) := fun _ _ _ _ _ => rfl

@[simp] theorem withFmt_active_tryFmt (s : State) (f : Format) : (s.withFmt .active f).tryFmt = s.tryFmt := rfl
@[simp] theorem withFmt_attempt_actFmt (s : State) (f : Format) : (s.withFmt .attempt f).actFmt = s.actFmt := rfl
@[simp] theorem withCrop_active_tryCrop (s : State) (c : Crop) : (s.withCrop .active c).tryCrop = s.tryCrop := rfl
@[simp] theorem withCrop_attempt_actCrop (s : State) (c : Crop) : (s.withCrop .attempt c).actCrop = s.actCrop := rfl

namespace Shape

variable {i : Instr} {codes : List ResultCode}

theorem completeOk (hok : .ok ∈ codes) : Shape i codes completeOk :=
  .completeWith (fun _ _ _ _ => rfl) (fun s => .refl i s) hok

/-- A write to a register without a shadow changes nothing but the record. -/
theorem memWriteOther {r : State → Byte} {v : State → Word} (hr : Blind r) (hv : Blind v)
    (hcc : ∀ s, r s ≠ regChipControl) (haa : ∀ s, r s ≠ regAecAgcEnable) (hi : i ∈ busUsers)
    (herr : .busError ∈ codes) : Shape i codes (memWriteThen r v (fun s => s)) := by
  refine .transact (fun s q b l es => ?_) (fun _ _ _ _ _ => rfl) (fun d s => ?_) hi herr
  · simp only [hr s q b l es, hv s q b l es, State.withTraffic_params]
  · rw [shadowed_other s _ (hcc s) (haa s)]
    exact .refl i s

theorem memWrite {r : Byte} {v : State → Word} (hv : Blind v) (hcc : r ≠ regChipControl) (haa : r ≠ regAecAgcEnable)
    (hi : i ∈ busUsers) (herr : .busError ∈ codes) : Shape i codes (memWrite r v) :=
  memWriteOther (blind_const r) hv (fun _ => hcc) (fun _ => haa) hi herr

theorem memWriteAecAgc {v : State → Word} (hv : Blind v) (haa : i ∈ shadowAaWriters) (hi : i ∈ busUsers)
    (herr : .busError ∈ codes) : Shape i codes (Machine.memWrite regAecAgcEnable v) := by
  refine .transact (fun s q b l es => ?_) (fun _ _ _ _ _ => rfl) (fun d s => ?_) hi herr
  · simp only [hv s q b l es, State.withTraffic_params]
  · rw [shadowed_aecAgcEnable]
    exact { toFrame := { shadowAa := .inr haa }, shadowInv := id }

/-- A write to CHIP_CONTROL writes STREAM with the shadow and keeps R54. -/
theorem memWriteChipControl {v : State → Word} {on : Bool} (hv : Blind v) (hs : i ∈ streamWriters)
    (hinv : ∀ s : State, s.ShadowInv → v s = if on then 0x0188 else 0x0000) (hi : i ∈ busUsers)
    (herr : .busError ∈ codes) :
    Shape i codes (memWriteThen (fun _ => regChipControl) v (fun s => { s with stream := on })) := by
  refine .transact (fun s q b l es => ?_) (fun _ _ _ _ _ => rfl) (fun d s => ?_) hi herr
  · simp only [hv s q b l es, State.withTraffic_params]
  · rw [shadowed_chipControl]
    exact { toFrame := { stream := .inr hs, shadowCc := .inr hs }, shadowInv := hinv s }

end Shape

theorem shape_prologue (i : Instr) {codes : List ResultCode} (h : .resourceError ∈ codes) : Shape i codes prologue :=
  .raiseIf (fun _ _ _ _ _ => rfl) h

theorem shape_controlScript {i : Instr} (legal : State → Bool) {write : Action} {cache : State → State}
    (hlegal : Blind legal) (hwrite : Shape i (resultsOf i) write) (hf : Commutes cache)
    (h : ∀ s, Internal i s (cache s))
    (hcodes : resultsOf i = [.ok, .busError, .invalidArgument]) :
    ∀ a ∈ [raiseIf (fun s => !legal s) .invalidArgument, onlyIf State.powered write, update cache, completeOk],
      Shape i (resultsOf i) a := by
  simp only [List.mem_cons, List.not_mem_nil, or_false, forall_eq_or_imp, forall_eq]
  exact ⟨.raiseIf (fun s q b l es => by simp only [hlegal s q b l es]) (by simp [hcodes]),
    .onlyIf (fun _ _ _ _ _ => rfl) hwrite, .update hf h, .completeOk (by simp [hcodes])⟩

theorem pixelClockAddr_unshadowed (v : Variant) :
    pixelClockAddr v ≠ regChipControl ∧ pixelClockAddr v ≠ regAecAgcEnable := by
  cases v <;> decide

section
variable {i : Instr} (hi : i = .powerUp ∨ i = .openSession)
include hi

theorem shape_replay : ∀ a ∈ replay, Shape i (resultsOf i) a := by
  simp only [replay, List.mem_cons, List.not_mem_nil, or_false, forall_eq_or_imp, forall_eq]
  have hbus : i ∈ busUsers := by rcases hi with rfl | rfl <;> simp
  have haa : i ∈ shadowAaWriters := by rcases hi with rfl | rfl <;> simp
  have herr : .busError ∈ resultsOf i := by rcases hi with rfl | rfl <;> simp [resultsOf]
  have blind {v : State → Word} (hv : Blind v) {r : Byte} (hcc : r ≠ regChipControl) (haa : r ≠ regAecAgcEnable) :
      Shape i (resultsOf i) (memWrite r v) := .memWrite hv hcc haa hbus herr
  exact ⟨.memWriteAecAgc (fun _ _ _ _ _ => rfl) haa hbus herr, blind (fun _ _ _ _ _ => rfl) (by decide) (by decide),
    .memWriteAecAgc (fun _ _ _ _ _ => rfl) haa hbus herr, blind (fun _ _ _ _ _ => rfl) (by decide) (by decide),
    blind (fun _ _ _ _ _ => rfl) (by decide) (by decide)⟩

theorem shape_physOn : ∀ a ∈ physOn, Shape i (resultsOf i) a := by
  refine List.forall_mem_append.mpr ⟨?_, shape_replay hi⟩
  simp only [List.mem_cons, List.not_mem_nil, or_false, forall_eq_or_imp, forall_eq]
  have hbus : i ∈ busUsers := by rcases hi with rfl | rfl <;> simp
  have hstream : i ∈ streamWriters := by rcases hi with rfl | rfl <;> simp
  have hident : i ∈ identifiers := by rcases hi with rfl | rfl <;> simp
  have hclock : i ∈ clockWriters := by rcases hi with rfl | rfl <;> simp
  have herr : .busError ∈ resultsOf i := by rcases hi with rfl | rfl <;> simp [resultsOf]
  have habsent : .notPresent ∈ resultsOf i := by rcases hi with rfl | rfl <;> simp [resultsOf]
  have hlog : i ∈ clockWriters ++ busUsers := List.mem_append_left _ hclock
  refine ⟨.update ?on fun s => ?onI, .update ?wait fun s => ?waitI, .transact (fun _ _ _ _ _ => rfl)
    (fun _ _ _ _ _ => rfl) (fun d s => ?read) hbus herr, .skipIf fun _ _ _ _ _ => rfl, .update ?off fun s => ?offI,
    .update (fun _ _ _ _ => rfl) fun s => ?absent, .raiseIf (blind_const _) habsent,
    .memWrite (blind_const _) (by decide) (by decide) hbus herr,
    .memWrite (blind_const _) (by decide) (by decide) hbus herr,
    .memWriteChipControl (blind_const _) hstream (fun _ _ => rfl) hbus herr,
    .onlyIf (fun _ _ _ _ _ => rfl) (.memWriteOther (fun _ _ _ _ _ => rfl) (fun _ _ _ _ _ => rfl)
      (fun s => ?cc) (fun s => ?aa) hbus herr),
    .memWrite (blind_const _) (by decide) (by decide) hbus herr⟩
  case on => exact fun s q pre post => Commutes.emit .clkOn { s with clkEn := true } q pre post
  case off => exact fun s q pre post => Commutes.emit .clkOff { s with clkEn := false } q pre post
  case wait =>
    intro s q pre post
    exact Commutes.emit (.delay s.params.tStabNs) s q pre post
  case onI | offI => exact { toFrame := { clkEn := .inr hclock, log := .inr hlog } }
  case waitI => exact { toFrame := { log := .inr hlog } }
  case read => exact { toFrame := { chipVer := .inr hident } }
  case absent => exact { toFrame := { absent := .inr hident } }
  case cc => exact (pixelClockAddr_unshadowed s.params.variant).1
  case aa => exact (pixelClockAddr_unshadowed s.params.variant).2

theorem shape_coldBranch : ∀ a ∈ coldBranch, Shape i (resultsOf i) a := by
  simp only [coldBranch, List.forall_mem_append, List.mem_cons, List.not_mem_nil, or_false, forall_eq_or_imp, forall_eq]
  have hcount : i ∈ countWriters := by rcases hi with rfl | rfl <;> simp
  have habsent : .notPresent ∈ resultsOf i := by rcases hi with rfl | rfl <;> simp [resultsOf]
  have hok : .ok ∈ resultsOf i := by rcases hi with rfl | rfl <;> simp [resultsOf]
  exact ⟨⟨.raiseIf (fun _ _ _ _ _ => rfl) habsent, shape_physOn hi⟩,
    .update (fun _ _ _ _ => rfl) fun s => { toFrame := { powerCount := .inr hcount } }, .completeOk hok⟩

end

theorem commutes_clockDisable : Commutes fun s => { s with clkEn := false }.emit .clkOff := fun s q pre post =>
  Commutes.emit .clkOff { s with clkEn := false } q pre post

theorem shape_release {i : Instr} (hi : i = .powerDown ∨ i = .closeSession) :
    ∀ a ∈ releaseScript.tail, Shape i (resultsOf i) a := by
  simp only [releaseScript, physOff, List.cons_append, List.nil_append, List.tail_cons, List.mem_cons, List.not_mem_nil,
    or_false, forall_eq_or_imp, forall_eq]
  have hcount : i ∈ countWriters := by rcases hi with rfl | rfl <;> simp
  have hclock : i ∈ clockWriters := by rcases hi with rfl | rfl <;> simp
  have hcodes : resultsOf i = [.ok, .precondition] := by rcases hi with rfl | rfl <;> rfl
  refine ⟨.raiseIf (fun _ _ _ _ _ => rfl) (by simp [hcodes]), .skipIf fun _ _ _ _ _ => rfl,
    .update commutes_clockDisable fun s => ?_, .update (fun _ _ _ _ => rfl) fun s => ?_,
    .completeOk (by simp [hcodes])⟩
  · exact { toFrame := { clkEn := .inr hclock, log := .inr (List.mem_append_left _ hclock) } }
  · exact { toFrame := { powerCount := .inr hcount } }

theorem or_streamBits_of_shadowInv {s : State} (h : s.ShadowInv) : s.shadowCc ||| streamBits = 0x0188 := by
  rw [h]
  split <;> rfl

theorem and_not_streamBits_of_shadowInv {s : State} (h : s.ShadowInv) : s.shadowCc &&& ~~~streamBits = 0x0000 := by
  rw [h]
  split <;> rfl

theorem shape_windowWrites : ∀ a ∈ windowWrites, Shape .streamOn (resultsOf .streamOn) a := by
  simp only [windowWrites, List.mem_cons, List.not_mem_nil, or_false, forall_eq_or_imp, forall_eq]
  refine ⟨?_, ?_, ?_, ?_, ?_, ?_⟩
  all_goals exact .memWrite (fun _ _ _ _ _ => rfl) (by decide) (by decide) (by simp) (by simp [resultsOf])

/-- Every action behind the prologue of a command's script, with what the command may write and return. -/
theorem scriptOf_shapes (i : Instr) : ∀ a ∈ (scriptOf i).tail, Shape i (resultsOf i) a := by
  cases i
  case powerDown => exact shape_release (.inl rfl)
  case closeSession => exact shape_release (.inr rfl)
  case setAutoGain =>
    exact shape_controlScript _ (fun _ _ _ _ _ => rfl)
      (.memWriteAecAgc (fun _ _ _ _ _ => rfl) (by simp) (by simp) (by simp [resultsOf])) (fun _ _ _ _ => rfl)
      (fun s => { toFrame := { } }) rfl
  case setAutoExposure =>
    exact shape_controlScript _ (fun _ _ _ _ _ => rfl)
      (.memWriteAecAgc (fun _ _ _ _ _ => rfl) (by simp) (by simp) (by simp [resultsOf])) (fun _ _ _ _ => rfl)
      (fun s => { toFrame := { } }) rfl
  case setAnalogGain =>
    exact shape_controlScript _ (fun _ _ _ _ _ => rfl)
      (.memWrite (fun _ _ _ _ _ => rfl) (by decide) (by decide) (by simp) (by simp [resultsOf])) (fun _ _ _ _ => rfl)
      (fun s => { toFrame := { } }) rfl
  case setExposure =>
    exact shape_controlScript _ (fun _ _ _ _ _ => rfl)
      (.memWrite (fun _ _ _ _ _ => rfl) (by decide) (by decide) (by simp) (by simp [resultsOf])) (fun _ _ _ _ => rfl)
      (fun s => { toFrame := { } }) rfl
  case setTestPattern =>
    exact shape_controlScript _ (fun _ _ _ _ _ => rfl)
      (.memWrite (fun _ _ _ _ _ => rfl) (by decide) (by decide) (by simp) (by simp [resultsOf])) (fun _ _ _ _ => rfl)
      (fun s => { toFrame := { } }) rfl
  all_goals
    simp only [scriptOf, powerUpScript, openScript, streamOnScript, streamOffScript, teardownScript, setCropScript,
      setFormatScript, getCropScript, getFormatScript, enumCodeScript, enumSizeScript, setFrameIntervalScript,
      getFrameIntervalScript, List.cons_append, List.nil_append, List.tail_cons,
      List.mem_cons, List.mem_append, or_imp, forall_and, List.not_mem_nil, false_imp_iff, and_true,
      forall_eq]
  case powerUp =>
    exact ⟨.skipIf fun _ _ _ _ _ => rfl, shape_coldBranch (.inl rfl), .raiseIf (fun _ _ _ _ _ => rfl) (by decide),
      .update (fun _ _ _ _ => rfl) fun s => { toFrame := { } }, .completeOk (by decide)⟩
  case openSession =>
    exact ⟨.raiseIf (fun _ _ _ _ _ => rfl) (by decide), .update (fun _ _ _ _ => rfl) fun s => { toFrame := { } },
      .skipIf fun _ _ _ _ _ => rfl, shape_coldBranch (.inr rfl),
      .update (fun _ _ _ _ => rfl) fun s => { toFrame := { } }, .completeOk (by decide)⟩
  case streamOn =>
    exact ⟨.raiseIf (fun _ _ _ _ _ => rfl) (by decide), .completeIf (fun _ _ _ _ _ => rfl) (by decide),
      .raiseIf (fun _ _ _ _ _ => rfl) (by decide), shape_windowWrites,
      .memWriteChipControl (on := true) (fun _ _ _ _ _ => rfl) (by simp) (fun _ => or_streamBits_of_shadowInv)
        (by simp) (by decide),
      .completeOk (by decide)⟩
  case streamOff =>
    exact ⟨.completeIf (fun _ _ _ _ _ => rfl) (by decide), .raiseIf (fun _ _ _ _ _ => rfl) (by decide),
      .memWriteChipControl (on := false) (fun _ _ _ _ _ => rfl) (by simp) (fun _ => and_not_streamBits_of_shadowInv)
        (by simp) (by decide),
      .completeOk (by decide)⟩
  case teardown =>
    exact ⟨.raiseIf (fun _ _ _ _ _ => rfl) (by decide), .update commutes_clockDisable fun s => { toFrame := { } },
      .update (fun _ _ _ _ => rfl) fun s => { toFrame := { } }, .completeOk (by decide)⟩
  case setCrop w =>
    refine ⟨.update (.installCrop w _ fun _ _ _ _ => rfl) fun s => ?_,
      .completeWith (fun _ _ _ _ => by cases w <;> rfl) (fun s => { toFrame := { } }) (by cases w <;> decide)⟩
    rw [installCrop_eq]
    cases w <;> exact { toFrame := { } }
  case setFormat w =>
    refine ⟨.update (fun _ _ _ _ => by cases w <;> rfl) fun s => ?_,
      .completeWith (fun _ _ _ _ => by cases w <;> rfl) (fun s => { toFrame := { } }) (by cases w <;> decide)⟩
    cases w <;> exact { toFrame := { } }
  case getCrop w =>
    exact .completeWith (fun _ _ _ _ => by cases w <;> rfl) (fun s => { toFrame := { } }) (by cases w <;> decide)
  case getFormat w =>
    exact .completeWith (fun _ _ _ _ => by cases w <;> rfl) (fun s => { toFrame := { } }) (by cases w <;> decide)
  case enumCode =>
    exact ⟨.raiseIf (fun _ _ _ _ _ => rfl) (by decide),
      .completeWith (fun _ _ _ _ => rfl) (fun s => { toFrame := { } }) (by decide)⟩
  case enumSize =>
    exact ⟨.raiseIf (fun _ _ _ _ _ => rfl) (by decide),
      .completeWith (fun _ _ _ _ => rfl) (fun s => { toFrame := { } }) (by decide)⟩
  case setFrameInterval =>
    exact ⟨.raiseIf (fun _ _ _ _ _ => rfl) (by decide), .update (fun _ _ _ _ => rfl) fun s => { toFrame := { } },
      .completeWith (fun _ _ _ _ => rfl) (fun s => { toFrame := { } }) (by decide)⟩
  case getFrameInterval =>
    exact .completeWith (fun _ _ _ _ => rfl) (fun s => { toFrame := { } }) (by decide)

end Sys2Proof.Machine

namespace Sys2Proof.Machine

/-! ### Commands by the shapes of their actions -/

/-- Every action of a script, the prologue with its RESOURCE_ERROR included. -/
theorem scriptOf_shapes_prologue (i : Instr) : ∀ a ∈ scriptOf i, Shape i (.resourceError :: resultsOf i) a := by
  obtain ⟨rest, hscript⟩ := scriptOf_eq_prologue_cons i
  have hrest := scriptOf_shapes i
  rw [hscript] at hrest ⊢
  exact List.forall_mem_cons.mpr
    ⟨shape_prologue i List.mem_cons_self, fun a ha => (hrest a ha).mono fun _ => List.mem_cons_of_mem _⟩

theorem runScript_proceeds (i : Instr) (s : State) :
    Continues i s (runScript (scriptOf i) s) ∨ Ends i (.resourceError :: resultsOf i) s (runScript (scriptOf i) s) :=
  runActions_proceeds (scriptOf_shapes_prologue i) s.seqStep s

theorem Ends.not_running {i : Instr} {codes : List ResultCode} {s t : State} (h : Ends i codes s t) :
    t.running = false := by
  simp [State.running, h.seq]

theorem runScript_frame (i : Instr) (s : State) : Frame i s (runScript (scriptOf i) s) :=
  (runScript_proceeds i s).elim (·.toFrame) (·.toFrame)

/-- ERRINFO changes only where a bus error ends the command (R48, R87). -/
theorem runScript_errInfo (i : Instr) (s : State) : (runScript (scriptOf i) s).errInfo = s.errInfo ∨
    ((runScript (scriptOf i) s).result = .busError ∧ (runScript (scriptOf i) s).seq = none ∧
      (runScript (scriptOf i) s).log.getLast? = some (.answer .error) ∧ i ∈ busUsers) := by
  rcases runScript_proceeds i s with h | h
  · exact .inl h.errInfo
  · exact h.errInfo.imp_right fun ⟨hresult, hlog, hi⟩ => ⟨hresult, h.seq, hlog, hi⟩

/-- Settles O57: the frame that the shapes of a script's actions give the whole run. -/
theorem onlyTheNamedCommandsWrite : Obligations.OnlyTheNamedCommandsWrite := by
  intro s i
  have h := runScript_frame i s
  refine ⟨_, exec_eq_runScript i s, h.params, h.failed, h.cmd, h.arg, h.larg, h.rst, h.powerCount, h.clkEn, ?_,
    runScript_errInfo i s, ?_, ?_, h.shadowAa, ?_, ?_, ?_, ?_, ?_, ?_, ?_, ?_, ?_, ?_⟩
  · exact and_or_right.mpr ⟨h.absent, h.chipVer⟩
  · simpa [Kept] using h.detached
  · exact and_or_right.mpr ⟨h.stream, h.shadowCc⟩
  · simpa [Kept] using h.actCrop
  · simpa [Kept] using h.actFmt
  · simpa [Kept] using h.tryCrop
  · simpa [Kept] using h.tryFmt
  · simpa [Kept] using h.ctlAg
  · simpa [Kept] using h.ctlGain
  · simpa [Kept] using h.ctlAe
  · simpa [Kept] using h.ctlExp
  · simpa [Kept] using h.ctlTp
  · simpa [Kept] using h.fiDen

/-- Settles O40: the twelve commands are in none of the writers' lists. -/
theorem geometryAndEnumerationStayOffTheBus : Obligations.GeometryAndEnumerationStayOffTheBus := by
  intro s i hi
  have hoff : i ∉ busUsers ∧ i ∉ clockWriters ∧ i ∉ countWriters ∧ i ∉ identifiers ∧ i ∉ streamWriters ∧
      i ∉ shadowAaWriters := by
    revert i
    decide
  obtain ⟨hbus, hclock, hcount, hident, hstream, haa⟩ := hoff
  have h := runScript_frame i s
  have hlog : i ∉ clockWriters ++ busUsers := by simp only [List.mem_append, not_or]; exact ⟨hclock, hbus⟩
  have herr := (runScript_errInfo i s).resolve_right fun ⟨_, _, _, hmem⟩ => hbus hmem
  exact ⟨_, exec_eq_runScript i s, h.log.of_not_mem hlog, h.bus.of_not_mem hbus, h.inputs.of_not_mem hbus,
    h.powerCount.of_not_mem hcount, h.clkEn.of_not_mem hclock, h.absent.of_not_mem hident, h.stream.of_not_mem hstream,
    h.shadowCc.of_not_mem hstream, h.shadowAa.of_not_mem haa, herr, h.chipVer.of_not_mem hident⟩

/-- Behind a resource check that passes, or already behind it, a command proceeds with its own results only. -/
theorem runScript_proceeds_of_live (i : Instr) {s : State} (hlive : s.Live) :
    Continues i s (runScript (scriptOf i) s) ∨ Ends i (resultsOf i) s (runScript (scriptOf i) s) := by
  obtain ⟨rest, hscript⟩ := scriptOf_eq_prologue_cons i
  have hrest := scriptOf_shapes i
  rw [hscript] at hrest
  rw [hscript, runScript]
  cases hstep : s.seqStep with
  | succ k => exact runActions_proceeds hrest k s
  | zero =>
    rw [runActions_of_go rest (prologue_of_live hlive)]
    have hgo : Continues i s (s.advance (0 + 1)) := (Continues.refl i s).advance _
    exact (runActions_proceeds hrest 0 _).imp hgo.trans hgo.ends

/-- Settles O56: a command of a live controller goes on or ends as the shapes of its actions say. -/
theorem resultsEachCommandProduces : Obligations.ResultsEachCommandProduces := by
  intro i s t hlive hrun hexec possible
  have hcodes : possible = resultsOf i := by cases i <;> rfl
  rw [exec_eq_runScript] at hexec
  cases hexec
  rw [hcodes]
  rcases runScript_proceeds_of_live i hlive with h | h
  · have hrunning : (runScript (scriptOf i) s).running = true := h.running.trans hrun
    exact ⟨fun hstop => (nomatch hrunning.symm.trans hstop), fun _ => ⟨h.result, h.busy⟩, fun _ => h.res⟩
  · have hstopped := h.not_running
    refine ⟨fun _ => ⟨h.result, h.busy⟩, fun hgoes => (nomatch hstopped.symm.trans hgoes), fun hres => h.res ?_⟩
    exact hres.resolve_left fun hgoes => nomatch hstopped.symm.trans hgoes

/-! ### A host access beside a running command -/

/-- A host access while BUSY = 1 reaches the ARG registers and the record only (R72, R306). -/
theorem hostAccess_of_busy {s : State} (hbusy : s.busy = true) (a : Access) :
    ∃ q l, s.hostAccess a = { s with arg := q, log := l } := by
  cases a with
  | read offset => exact ⟨s.arg, _, rfl⟩
  | write offset v =>
    rcases hostWrite_cases s offset v with ⟨-, hidle, -⟩ | ⟨-, q, h⟩ | h
    · rw [hbusy] at hidle; cases hidle
    · exact ⟨q, s.log, h⟩
    · exact ⟨s.arg, s.log, h⟩

/-- Settles O8: with its record emptied, a command runs the same under any ARG registers and behind any record. -/
theorem hostCannotDisturbRunningCommand : Obligations.HostCannotDisturbRunningCommand := by
  intro s a i hbusy
  obtain ⟨q, l, haccess⟩ := hostAccess_of_busy hbusy a
  rw [haccess]
  let bare : State := { s with log := [] }
  have hunder (q : Quad) (l : List Event) : { s with arg := q, log := l } = bare.under q l [] := by
    simp [State.under, bare]
  have hrun (q : Quad) (l : List Event) :
      exec i { s with arg := q, log := l } = .next ((runScript (scriptOf i) bare).under q l []) := by
    rw [exec_eq_runScript, hunder q l]
    exact congrArg _ (runActions_under (scriptOf_shapes_prologue i) bare.seqStep bare q l)
  exact ⟨_, _, (runScript (scriptOf i) bare).log, hrun s.arg s.log, hrun q l, rfl, rfl, rfl, rfl, rfl⟩

/-! ### Single actions and late answers -/

/-- Settles O12: one action and then the rest of the script is the script (`runScript_runAction`). -/
theorem turnIsItsActions : Obligations.TurnIsItsActions := by
  intro i s hs hr
  rw [exec_eq_runScript, exec_eq_runScript, runScript_runAction (scriptOf_shapes_prologue i) (scriptOf_tame i) hs hr]

/-- Settles O58: a script that waits with its inputs used up goes on with the later ones (`runScript_resumes`). -/
theorem lateAnswersResume : Obligations.LateAnswersResume := by
  intro i s t xs ys hexec hr hin
  rw [exec_eq_runScript] at hexec
  cases hexec
  change (runScript (scriptOf i) (s.fed xs)).running = true at hr
  have hs : (s.fed xs).running = true := by
    rcases runScript_proceeds i (s.fed xs) with h | h
    · exact h.running.symm.trans hr
    · exact nomatch h.not_running.symm.trans hr
  rw [exec_eq_runScript, exec_eq_runScript]
  exact congrArg _ (runScript_resumes (scriptOf_shapes_prologue i) (scriptOf_tame i) ys (rest := scriptOf i)
    (before := []) (k := (s.fed xs).seqStep) rfl hs (Nat.zero_add _).symm hr hin)

/-! ### The shadow invariant -/

/-- An invariant that each action keeps and that does not speak of SEQ is kept by a single action of a script. -/
theorem runAction_keeps {P : State → Prop} {script : List Action} (hadv : ∀ s n, P s → P (State.advance s n))
    (h : ∀ a ∈ script, ∀ s, P s → P (a s).state) {s : State} (hs : P s) : P (runAction script s) := by
  cases ha : script[s.seqStep]? with
  | none => rw [runAction_of_none ha]; exact hs
  | some a =>
    have hstep := h a (List.mem_of_getElem? ha) s hs
    cases hg : a s with
    | go n t => rw [hg] at hstep; rw [runAction_of_go ha hg]; exact hadv t (n + 1) hstep
    | halt t => rw [hg] at hstep; rw [runAction_of_halt ha hg]; exact hstep

theorem shadowInv_hostAccess {s : State} (a : Access) (h : s.ShadowInv) : (s.hostAccess a).ShadowInv := by
  cases a with
  | read offset => exact h
  | write offset v =>
    simp only [State.hostAccess]
    rcases hostWrite_cases s offset v with ⟨-, -, hw⟩ | ⟨-, q, hw⟩ | hw <;> rw [hw] <;> exact h

/-- Settles O50: only actions write SHADOW_CC and STREAM, and each shape of action keeps R54. -/
theorem shadowInvariantKept : Obligations.ShadowInvariantKept := by
  intro s t h hs
  refine step_keeps State.ShadowInv ?inputs ?access ?assert ?release ?illegal ?action h hs
  case inputs => exact fun s l h => h
  case access => exact fun s a h => shadowInv_hostAccess a h
  case assert => exact fun s ok _ => rfl
  case release => exact fun s h => h
  case illegal => exact fun s why _ _ h => h
  case action => exact fun s i _ _ h =>
      runAction_keeps (fun s n h => h) (fun a ha s hs => (scriptOf_shapes_prologue i a ha).shadowInv hs) h

end Sys2Proof.Machine

/-! PROOFS. Geometry: the ratio function (R13, R170), what SET_CROP and SET_FORMAT install is legal (R52, R53, R171,
R173, R176), the recomputed ratio (R177), and the geometry invariant. -/

namespace Sys2Proof.Machine

/-! ### The ratio function -/

theorem ratio_mem {c f : Int} (hf : 1 ≤ f) (hc : f ≤ c) : 1 ≤ ratio c f ∧ ratio c f ≤ 8 := by
  have hround : 1 ≤ roundHalfAway c f := by
    rw [roundHalfAway, Int.le_ediv_iff_mul_le (by omega)]
    omega
  unfold ratio ratioMax
  omega

/-- Below the cap RATIO is the quotient rounded to nearest, halves away from zero (R13). -/
theorem ratio_rounds {c f : Int} (hf : 1 ≤ f) (h : ratio c f < 8) :
    (2 * ratio c f - 1) * f ≤ 2 * c ∧ 2 * c < (2 * ratio c f + 1) * f := by
  have hr : ratio c f = (2 * c + f) / (2 * f) := by
    have hround : roundHalfAway c f = (2 * c + f) / (2 * f) := rfl
    unfold ratio ratioMax at h ⊢
    omega
  have hlow : ratio c f * (2 * f) ≤ 2 * c + f := hr ▸ Int.ediv_mul_le _ (by omega)
  have hhigh : 2 * c + f < (ratio c f + 1) * (2 * f) := hr ▸ Int.lt_ediv_add_one_mul_self _ (by omega)
  constructor <;> linarith

theorem ratio_capped {c f : Int} (hf : 1 ≤ f) (h : ratio c f = 8) : 15 * f ≤ 2 * c := by
  have hround : 8 ≤ roundHalfAway c f := by
    unfold ratio ratioMax at h
    omega
  rw [roundHalfAway, Int.le_ediv_iff_mul_le (by omega)] at hround
  omega

/-- Settles O38: the ratio from its floor division, below the cap and at it. -/
theorem ratioIsRoundedAndCapped : Obligations.RatioIsRoundedAndCapped := fun _ _ hf hc =>
  ⟨(ratio_mem hf hc).1, (ratio_mem hf hc).2, ratio_rounds hf, ratio_capped hf⟩

/-! ### The format request and the recomputed ratio -/

theorem formatRequest_mem (request : Word) {c : Int} (hc : 1 ≤ c) :
    1 ≤ formatRequest request c ∧ formatRequest request c ≤ c := by
  simp only [formatRequest, clamp, ratioMax]
  omega

/-- A clamped request is even, the lower bound of the clamp, or the whole extent. -/
theorem formatRequest_cases (request : Word) (c : Int) :
    formatRequest request c % 2 = 0 ∨ formatRequest request c = max (c / 8) 1 ∨ formatRequest request c = c := by
  simp only [formatRequest, clamp, ratioMax, alignEven, clearBit0]
  omega

/-- A ratio above 4 is one at which the requested extent fits four and a half times or more (R13, R170). -/
theorem nine_mul_le_of_lt_ratio {c f : Int} (hf : 1 ≤ f) (h : 4 < ratio c f) : 9 * f ≤ 2 * c := by
  have hround : 5 ≤ roundHalfAway c f := by
    unfold ratio ratioMax at h
    omega
  rw [roundHalfAway, Int.le_ediv_iff_mul_le (by omega)] at hround
  omega

/-- Settles O39: for each ratio 1..4 of SET_FORMAT, rounding bounds the request and the recomputed ratio bounds the
extent; with ratio 4 and an even extent only 14 is left. -/
theorem recomputedRatioCrossesFourOnlyAtFourteen : Obligations.RecomputedRatioCrossesFourOnlyAtFourteen := by
  intro c request hlow hhigh heven hset hrecomputed
  obtain ⟨hf, hfc⟩ := formatRequest_mem request (c := c) (by omega)
  have hcases := formatRequest_cases request c
  obtain ⟨hr, -⟩ := ratio_mem hf hfc
  obtain ⟨hnear, hnear'⟩ := ratio_rounds (c := c) hf (by omega)
  have hextent : formatExtent request c = c / ratio c (formatRequest request c) := rfl
  generalize formatRequest request c = f at *
  generalize ratio c f = r at *
  obtain rfl | rfl | rfl | rfl : r = 1 ∨ r = 2 ∨ r = 3 ∨ r = 4 := by omega
  all_goals
    have hnine := nine_mul_le_of_lt_ratio (by omega) hrecomputed
    have hsmall : c ≤ 18 := by omega
    clear hrecomputed hset hhigh
    generalize formatExtent request c = e at *
    interval_cases c <;> omega

/-! ### What SET_CROP installs -/

theorem toNat_narrow {x : Int} (hlow : 0 ≤ x) (hhigh : x < 65536) : ((narrow x).toNat : Int) = x := by
  rw [narrow, BitVec.toNat_ofInt]
  omega

theorem narrow_widen (x : Word) : narrow (widen x) = x := by
  simp [narrow, widen]

theorem cropLeft_mem (x : Word) : cropLeft x % 2 = 1 ∧ 1 ≤ cropLeft x ∧ cropLeft x ≤ 751 := by
  simp only [cropLeft, clamp, alignOdd, clearBit0, leftMin, leftMax]
  omega

theorem cropTop_mem (x : Word) : cropTop x % 2 = 1 ∧ 5 ≤ cropTop x ∧ cropTop x ≤ 481 := by
  simp only [cropTop, clamp, alignOdd, clearBit0, topMin, topMax]
  omega

theorem cropExtent_mem (x : Word) {origin array most : Int} (hmost : most % 2 = 0) (hmin : 2 ≤ most)
    (hroom : 2 ≤ array - origin) :
    cropExtent x origin array most % 2 = 0 ∧ 2 ≤ cropExtent x origin array most ∧
      cropExtent x origin array most ≤ most ∧ cropExtent x origin array most ≤ array - origin := by
  simp only [cropExtent, clamp, alignEven, clearBit0, extentMin]
  omega

/-- R176: whatever the operands, SET_CROP's rectangle satisfies R52. -/
theorem cropFor_legal (left top width height : Word) : (cropFor left top width height).Legal := by
  obtain ⟨hlodd, hl, hl'⟩ := cropLeft_mem left
  obtain ⟨htodd, ht, ht'⟩ := cropTop_mem top
  obtain ⟨hweven, hw, hw', hwroom⟩ := cropExtent_mem width (origin := cropLeft left) (array := arrayColumns)
    (most := widthMax) rfl (by decide) (by unfold arrayColumns; omega)
  obtain ⟨hheven, hh, hh', hhroom⟩ := cropExtent_mem height (origin := cropTop top) (array := arrayRows)
    (most := heightMax) rfl (by decide) (by unfold arrayRows; omega)
  simp only [arrayColumns, widthMax, arrayRows, heightMax] at *
  have hleft := toNat_narrow (x := cropLeft left) (by omega) (by omega)
  have htop := toNat_narrow (x := cropTop top) (by omega) (by omega)
  have hwidth := toNat_narrow (x := cropExtent width (cropLeft left) 782 752) (by omega) (by omega)
  have hheight := toNat_narrow (x := cropExtent height (cropTop top) 492 480) (by omega) (by omega)
  simp only [Crop.Legal, cropFor, arrayColumns, widthMax, arrayRows, heightMax]
  omega

/-- R176: a legal rectangle is what SET_CROP installs for it. -/
theorem cropFor_of_legal {c : Crop} (h : c.Legal) : cropFor c.left c.top c.width c.height = c := by
  obtain ⟨hleft, htop, hwidth, hheight, hright, hbottom⟩ := h
  have hl : cropLeft c.left = widen c.left := by
    simp only [cropLeft, clamp, alignOdd, clearBit0, leftMin, leftMax, widen]
    omega
  have ht : cropTop c.top = widen c.top := by
    simp only [cropTop, clamp, alignOdd, clearBit0, topMin, topMax, widen]
    omega
  have hw : cropExtent c.width (widen c.left) arrayColumns widthMax = widen c.width := by
    simp only [cropExtent, clamp, alignEven, clearBit0, extentMin, arrayColumns, widthMax, widen]
    omega
  have hh : cropExtent c.height (widen c.top) arrayRows heightMax = widen c.height := by
    simp only [cropExtent, clamp, alignEven, clearBit0, extentMin, arrayRows, heightMax, widen]
    omega
  simp only [cropFor, hl, ht, hw, hh, narrow_widen]

theorem crop_resCrop (s : State) (c : Crop) (w : Target) : (s.resCrop c).crop w = s.crop w := by cases w <;> rfl
theorem fmt_resCrop (s : State) (c : Crop) (w : Target) : (s.resCrop c).fmt w = s.fmt w := by cases w <;> rfl
theorem crop_complete (s : State) (code : ResultCode) (w : Target) : (s.complete code).crop w = s.crop w := by
  cases w <;> rfl
theorem fmt_complete (s : State) (code : ResultCode) (w : Target) : (s.complete code).fmt w = s.fmt w := by
  cases w <;> rfl

/-- What SET_CROP leaves of a rectangle `c` of its operands (R171). -/
def State.cropSet (s : State) (w : Target) (c : Crop) : State := ((s.installCrop w c).resCrop c).complete .ok

theorem crop_cropSet (s : State) (w : Target) (c : Crop) : (s.cropSet w c).crop w = c := by
  simp [State.cropSet, crop_complete, crop_resCrop]

theorem fmt_cropSet (s : State) (w : Target) (c : Crop) :
    (s.cropSet w c).fmt w = resizedFormat (s.crop w) c (s.fmt w) := by
  simp [State.cropSet, fmt_complete, fmt_resCrop, installCrop_eq]

/-- SET_CROP issued again with the rectangle it has installed starts on it and keeps it and the format. -/
theorem exec_setCrop_again {s : State} (w : Target) {c : Crop} (hs : s.Starts) (hc : c.Legal) :
    exec (.setCrop w) (({ s.cropSet w c with arg := (s.cropSet w c).res }).accept (encode (.setCrop w))) =
      .next ((({ s.cropSet w c with arg := (s.cropSet w c).res }).accept (encode (.setCrop w))).cropSet w c) := by
  obtain ⟨⟨-, hbus⟩, hfailed, hdetached⟩ := hs
  refine exec_setCrop_of_starts w ⟨⟨rfl, ?_⟩, ?_, ?_⟩ (cropFor_of_legal hc)
  · simpa [State.cropSet] using hbus
  · simpa [State.cropSet] using hfailed
  · simpa [State.cropSet] using hdetached

/-- Settles O34: what is installed is legal, and a legal rectangle is its own SET_CROP. -/
theorem setCropClosedAndIdempotent : Obligations.SetCropClosedAndIdempotent := by
  intro s w hs
  have hlegal := cropFor_legal s.a0 s.a1 s.a2 s.a3
  generalize hc : cropFor s.a0 s.a1 s.a2 s.a3 = c at hlegal
  refine ⟨s.cropSet w c, exec_setCrop_of_starts w hs hc, ?_, ?_, _, exec_setCrop_again w hs hlegal, ?_, ?_, rfl⟩
  · rwa [crop_cropSet]
  · rw [crop_cropSet]
    rfl
  · rw [crop_cropSet, crop_cropSet]
  · have hcrop (u : State) (q : Quad) (v : Word32) : ({ u with arg := q }.accept v).crop w = u.crop w := by
      cases w <;> rfl
    have hfmt (u : State) (q : Quad) (v : Word32) : ({ u with arg := q }.accept v).fmt w = u.fmt w := by
      cases w <;> rfl
    rw [fmt_cropSet, hcrop, hfmt, crop_cropSet, resizedFormat, if_pos ⟨rfl, rfl⟩]

/-! ### What SET_FORMAT installs -/

theorem exec_setFormat_of_starts {s : State} (w : Target) {f : Format} (h : s.Starts)
    (hf : formatFor s.a0 s.a1 (s.crop w) = f) :
    exec (.setFormat w) s = .next (((s.withFmt w f).resFmt f).complete .ok) := by
  have hadvance : formatFor (s.advance 1).a0 (s.advance 1).a1 ((s.advance 1).crop w) = f := by
    rw [crop_advance]
    exact hf
  rw [exec_of_starts rfl h, runActions_update, runActions_completeWith, hadvance, fmt_advance, State.fmt_withFmt,
    withFmt_advance, resFmt_advance, complete_advance, resFmt_advance, complete_advance]

/-- Settles O36: SET_FORMAT's next state at each target, the installed format being `formatFor`'s. -/
theorem setFormatInstalls : Obligations.SetFormatInstalls := by
  refine ⟨by decide, by decide, fun s h => ?_⟩
  intro extent installed
  have hinstalled (w : Target) : formatFor s.a0 s.a1 (s.crop w) = installed (s.crop w) := rfl
  clear_value installed
  constructor
  · rw [exec_setFormat_of_starts .active h (hinstalled .active)]
    rfl
  · rw [exec_setFormat_of_starts .attempt h (hinstalled .attempt)]
    rfl

/-- An extent of a format SET_FORMAT installs is the crop's, divided by a ratio in 1..8 (R53, R173). -/
theorem formatExtent_fits (request : Word) {c : Word} (hc : 1 ≤ c.toNat) :
    ∃ r : Fin 8, (narrow (formatExtent request (widen c))).toNat = c.toNat / (r.val + 1) := by
  obtain ⟨hf, hfc⟩ := formatRequest_mem request (c := widen c) (by unfold widen; omega)
  obtain ⟨hr, hr'⟩ := ratio_mem hf hfc
  obtain ⟨r, hratio⟩ : ∃ r : Nat, ratio (widen c) (formatRequest request (widen c)) = r + 1 :=
    ⟨(ratio (widen c) (formatRequest request (widen c)) - 1).toNat, by omega⟩
  have hle : c.toNat / (r + 1) ≤ c.toNat := Nat.div_le_self _ _
  have hextent : formatExtent request (widen c) = ((c.toNat / (r + 1) : Nat) : Int) := by
    rw [formatExtent, hratio, widen]
    norm_cast
  refine ⟨⟨r, by omega⟩, ?_⟩
  rw [hextent]
  generalize c.toNat / (r + 1) = extent at hle ⊢
  have hfits : c.toNat < 65536 := c.isLt
  exact_mod_cast toNat_narrow (x := (extent : Int)) (by omega) (by omega)

theorem formatFor_fits (width height : Word) {c : Crop} (hc : c.Legal) : (formatFor width height c).Fits c := by
  obtain ⟨-, -, ⟨-, hw, -⟩, ⟨-, hh, -⟩, -⟩ := hc
  exact ⟨formatExtent_fits width (by omega), formatExtent_fits height (by omega)⟩

/-- A format of the crop's own size, or one that fitted a crop of the same size, fits it (R53, R171). -/
theorem resizedFormat_fits {old new : Crop} {f : Format} (h : f.Fits old) : (resizedFormat old new f).Fits new := by
  unfold resizedFormat
  split
  · rename_i hsize
    simpa only [Format.Fits, hsize.1, hsize.2] using h
  · exact ⟨⟨0, by simp⟩, ⟨0, by simp⟩⟩

/-! ### The geometry invariant -/

/-- The invariant target by target. -/
theorem geometryInv_iff (s : State) : s.GeometryInv ↔ ∀ w, (s.crop w).Legal ∧ (s.fmt w).Fits (s.crop w) := by
  refine ⟨fun ⟨hact, htry, hactFmt, htryFmt⟩ w => ?_, fun h => ?_⟩
  · cases w with
    | active => exact ⟨hact, hactFmt⟩
    | attempt => exact ⟨htry, htryFmt⟩
  · obtain ⟨hact, hactFmt⟩ := h .active
    obtain ⟨htry, htryFmt⟩ := h .attempt
    exact ⟨hact, htry, hactFmt, htryFmt⟩

/-- An action that keeps both crops legal and both formats realisable. -/
def KeepsGeometry (a : Action) : Prop := ∀ s : State, s.GeometryInv → (a s).state.GeometryInv

/-- The commands that write no crop and no format. -/
def geometryReaders : List Instr :=
  [.powerUp, .powerDown, .teardown, .getCrop .active, .getCrop .attempt, .getFormat .active, .getFormat .attempt,
    .setAutoGain, .setAnalogGain, .setAutoExposure, .setExposure, .setTestPattern, .streamOn, .streamOff, .closeSession,
    .enumCode, .enumSize, .setFrameInterval, .getFrameInterval]

theorem Frame.geometryInv {i : Instr} {s t : State} (h : Frame i s t) (hi : i ∈ geometryReaders)
    (hs : s.GeometryInv) : t.GeometryInv := by
  have hoff : i ∉ [Instr.setCrop .active] ∧ i ∉ [Instr.setCrop .active, .setFormat .active] ∧
      i ∉ [Instr.setCrop .attempt, .openSession] ∧ i ∉ [Instr.setCrop .attempt, .setFormat .attempt, .openSession] := by
    clear h
    revert i
    decide
  obtain ⟨hac, haf, htc, htf⟩ := hoff
  rw [State.GeometryInv, h.actCrop.of_not_mem hac, h.actFmt.of_not_mem haf, h.tryCrop.of_not_mem htc,
    h.tryFmt.of_not_mem htf]
  exact hs

/-- An action that could stand in the script of a command that writes no geometry keeps it. -/
theorem Shape.keepsGeometry {i : Instr} {codes : List ResultCode} {a : Action} (h : Shape i codes a)
    (hi : i ∈ geometryReaders) : KeepsGeometry a := by
  intro s hs
  have hstep := h.proceeds s
  cases hg : a s with
  | go n t =>
    rw [hg] at hstep
    exact hstep.toFrame.geometryInv hi hs
  | halt t =>
    rw [hg] at hstep
    exact hstep.elim (·.toFrame.geometryInv hi hs) (·.toFrame.geometryInv hi hs)

theorem geometryInv_installCrop {s : State} (w : Target) {c : Crop} (hc : c.Legal) (h : s.GeometryInv) :
    (s.installCrop w c).GeometryInv := by
  rw [installCrop_eq]
  rw [geometryInv_iff] at h
  have hfits : (resizedFormat (s.crop w) c (s.fmt w)).Fits c := resizedFormat_fits (h w).2
  cases w with
  | active => exact ⟨hc, (h .attempt).1, hfits, (h .attempt).2⟩
  | attempt => exact ⟨(h .active).1, hc, (h .active).2, hfits⟩

theorem geometryInv_withFmt {s : State} (w : Target) {f : Format} (hf : f.Fits (s.crop w)) (h : s.GeometryInv) :
    (s.withFmt w f).GeometryInv := by
  rw [geometryInv_iff] at h
  cases w with
  | active => exact ⟨(h .active).1, (h .attempt).1, hf, (h .attempt).2⟩
  | attempt => exact ⟨(h .active).1, (h .attempt).1, (h .active).2, hf⟩

theorem geometryInv_freshTry {s : State} (h : s.GeometryInv) : s.freshTry.GeometryInv := by
  obtain ⟨hact, -, hactFmt, -⟩ := h
  have htry : defaultCrop.Legal ∧ defaultFormat.Fits defaultCrop := by decide
  exact ⟨hact, htry.1, hactFmt, htry.2⟩

theorem scriptOf_keepsGeometry (i : Instr) : ∀ a ∈ scriptOf i, KeepsGeometry a := by
  have reads {a : Action} (h : Shape .powerUp (.resourceError :: resultsOf .powerUp) a) : KeepsGeometry a :=
    h.keepsGeometry (by decide)
  have hprologue : KeepsGeometry prologue := reads (shape_prologue _ (by decide))
  by_cases hi : i ∈ geometryReaders
  · exact fun a ha => (scriptOf_shapes_prologue i a ha).keepsGeometry hi
  · cases i
    case setCrop w =>
      simp only [scriptOf, setCropScript, List.mem_cons, List.not_mem_nil, or_false, forall_eq_or_imp, forall_eq]
      exact ⟨hprologue, fun s h => geometryInv_installCrop w (cropFor_legal _ _ _ _) h, fun s h => h⟩
    case setFormat w =>
      simp only [scriptOf, setFormatScript, List.mem_cons, List.not_mem_nil, or_false, forall_eq_or_imp, forall_eq]
      refine ⟨hprologue, fun s h => geometryInv_withFmt w (formatFor_fits _ _ ?_) h, fun s h => h⟩
      exact ((geometryInv_iff s).mp h w).1
    case openSession =>
      simp only [scriptOf, openScript, List.cons_append, List.nil_append, List.mem_cons, List.mem_append, or_imp,
        forall_and, List.not_mem_nil, false_imp_iff, and_true, forall_eq]
      refine ⟨hprologue, reads (.raiseIf (fun _ _ _ _ _ => rfl) (by decide)), fun s h => geometryInv_freshTry h,
        reads (.skipIf fun _ _ _ _ _ => rfl), fun a ha => ?_, fun s h => h, fun s h => h⟩
      exact (shape_coldBranch (.inl rfl) a ha).keepsGeometry (by decide)
    case getCrop w => cases w <;> exact absurd (by decide) hi
    case getFormat w => cases w <;> exact absurd (by decide) hi
    all_goals exact absurd (by decide) hi

theorem geometryInv_hostAccess {s : State} (a : Access) (h : s.GeometryInv) : (s.hostAccess a).GeometryInv := by
  cases a with
  | read offset => exact h
  | write offset v =>
    simp only [State.hostAccess]
    rcases hostWrite_cases s offset v with ⟨-, -, hw⟩ | ⟨-, q, hw⟩ | hw <;> rw [hw] <;> exact h

/-- Settles O49: reset loads a legal geometry, and besides it only the installing actions of SET_CROP, SET_FORMAT and
OPEN write one, a legal one. -/
theorem geometryInvariantKept : Obligations.GeometryInvariantKept := by
  intro s t h hs
  refine step_keeps State.GeometryInv ?inputs ?access ?assert ?release ?illegal ?action h hs
  case inputs => exact fun s l h => h
  case access => exact fun s a h => geometryInv_hostAccess a h
  case assert => exact fun s ok _ => geometryInv_afterReset s.params ok
  case release => exact fun s h => h
  case illegal => exact fun s why _ _ h => h
  case action => exact fun s i _ _ h => runAction_keeps (fun s n h => h) (scriptOf_keepsGeometry i) h

end Sys2Proof.Machine

/-! PROOFS. Scripts annotated action by action: an assertion for each index of a script that its actions carry on. From
it the power invariant (R55, R89), which says more at some actions than between commands, and the cache invariant
(R43, R50), which needs that an operand has been checked. -/

namespace Sys2Proof.Machine

/-! ### Annotated scripts -/

/-- From the `k`-th action: going on leads to the assertion of the action that comes next, ending to `done`, and waiting
stays at assertion `k`. -/
def Meets (ann : Nat → State → Prop) (done : State → Prop) (k : Nat) : Progress → Prop
  | .go n t => ann (k + n + 1) t
  | .halt t => (t.running = true → ann k t) ∧ (t.running = false → done t)

/-- The actions of a script's part that begins at index `k` meet the assertions. -/
def Annotated (ann : Nat → State → Prop) (done : State → Prop) : Nat → List Action → Prop
  | _, [] => True
  | k, a :: as => (∀ s, ann k s → Meets ann done k (a s)) ∧ Annotated ann done (k + 1) as

section
variable {ann : Nat → State → Prop} {done : State → Prop}

theorem Annotated.append {k : Nat} {as bs : List Action} (ha : Annotated ann done k as)
    (hb : Annotated ann done (k + as.length) bs) : Annotated ann done k (as ++ bs) := by
  induction as generalizing k with
  | nil => exact hb
  | cons a as ih =>
    refine ⟨ha.1, ih ha.2 ?_⟩
    rwa [List.length_cons, Nat.add_comm as.length, ← Nat.add_assoc] at hb

theorem Annotated.of_forall {as : List Action} (k : Nat) (h : ∀ a ∈ as, ∀ k s, ann k s → Meets ann done k (a s)) :
    Annotated ann done k as := by
  induction as generalizing k with
  | nil => trivial
  | cons a as ih =>
    obtain ⟨ha, has⟩ := List.forall_mem_cons.mp h
    exact ⟨ha k, ih (k + 1) has⟩

theorem Annotated.meets {k j : Nat} {as : List Action} {a : Action} (h : Annotated ann done k as)
    (ha : as[j]? = some a) {s : State} (hs : ann (k + j) s) : Meets ann done (k + j) (a s) := by
  induction as generalizing k j with
  | nil => simp at ha
  | cons b as ih =>
    cases j with
    | zero =>
      obtain rfl : b = a := by simpa using ha
      exact h.1 s hs
    | succ j =>
      have hk : k + (j + 1) = k + 1 + j := by omega
      rw [hk] at hs ⊢
      exact ih h.2 (by simpa using ha) hs

/-- A single action of an annotated script: the command still runs, with the assertion of SEQ's next action, or it has
ended. -/
theorem runAction_annotated {i : Instr} (h : Annotated ann done 0 (scriptOf i))
    (hadv : ∀ k s n, ann k s → ann k (State.advance s n)) {s : State} {q : Seq} (hq : s.seq = some q)
    (hs : ann q.step s) :
    (∃ q', (runAction (scriptOf i) s).seq = some q' ∧ (runAction (scriptOf i) s).cmd = s.cmd ∧
      ann q'.step (runAction (scriptOf i) s)) ∨
    ((runAction (scriptOf i) s).seq = none ∧ done (runAction (scriptOf i) s)) := by
  have hstep := seqStep_of_seq hq
  cases ha : (scriptOf i)[s.seqStep]? with
  | none => rw [runAction_of_none ha]; exact .inl ⟨q, hq, rfl, hs⟩
  | some a =>
    have hmem := List.mem_of_getElem? ha
    have hmeets : Meets ann done q.step (a s) := by
      have hj : (scriptOf i)[q.step]? = some a := by rw [← hstep]; exact ha
      have hs' : ann (0 + q.step) s := by rwa [Nat.zero_add]
      have hm := h.meets hj hs'
      rwa [Nat.zero_add] at hm
    cases hg : a s with
    | go n t =>
      rw [hg] at hmeets
      obtain ⟨hseq, hcmd⟩ := scriptOf_tame i a hmem s n t hg
      rw [runAction_of_go ha hg]
      refine .inl ⟨{ q with step := q.step + (n + 1) }, ?_, hcmd, hadv _ t _ hmeets⟩
      simp [hseq, hq]
    | halt t =>
      rw [hg] at hmeets
      rw [runAction_of_halt ha hg]
      cases hr : t.running with
      | false => exact .inr ⟨by simpa [State.running] using hr, hmeets.2 hr⟩
      | true =>
        obtain ⟨⟨b, es, rfl⟩, -⟩ := (scriptOf_shapes_prologue i a hmem).resumes hg hr
        exact .inl ⟨q, hq, rfl, hmeets.1 hr⟩

end

/-! ### Phases and the record of the clock -/

/-- The state is in phase `p`, the record says what CLK_EN is, and every transaction in it was issued clocked (R89). -/
def State.AtPhase (s : State) (p : PowerPhase) : Prop :=
  s.inPhase p = true ∧ clockAfter false s.log = s.clkEn ∧ issuedClocked false s.log = true

theorem State.AtPhase.congr {s t : State} {p p' : PowerPhase} (h : s.AtPhase p) (hlog : t.log = s.log)
    (hclk : t.clkEn = s.clkEn) (hp : s.inPhase p = true → t.inPhase p' = true) : t.AtPhase p' := by
  obtain ⟨hphase, hafter, hissued⟩ := h
  exact ⟨hp hphase, by rw [hlog, hclk, hafter], by rw [hlog, hissued]⟩

theorem State.AtPhase.weaken {s : State} {p p' : PowerPhase} (h : s.AtPhase p)
    (hp : s.inPhase p = true → s.inPhase p' = true) : s.AtPhase p' := h.congr rfl rfl hp

/-- An event that neither moves the clock nor issues a transaction. -/
def Event.offClock : Event → Bool
  | .delay _ | .answer _ | .hostRead _ _ => true
  | .clkOn | .clkOff | .bus _ | .rst => false

theorem State.AtPhase.append {s t : State} {p p' : PowerPhase} {e : Event} (h : s.AtPhase p) (he : e.offClock = true)
    (hlog : t.log = s.log ++ [e]) (hclk : t.clkEn = s.clkEn) (hp : s.inPhase p = true → t.inPhase p' = true) :
    t.AtPhase p' := by
  obtain ⟨hphase, hafter, hissued⟩ := h
  refine ⟨hp hphase, ?_, ?_⟩
  · rw [hlog, clockAfter_append, hafter, hclk]
    cases e with
    | delay _ | answer _ | hostRead _ _ => rfl
    | clkOn | clkOff | bus _ | rst => cases he
  · rw [hlog, issuedClocked_append, hissued, Bool.true_and]
    cases e with
    | delay _ | answer _ | hostRead _ _ => rfl
    | clkOn | clkOff | bus _ | rst => cases he

theorem State.AtPhase.clockEnabled {s : State} {p p' : PowerPhase} (h : s.AtPhase p)
    (hp : s.inPhase p = true → { s with clkEn := true }.inPhase p' = true) :
    ({ s with clkEn := true }.emit .clkOn).AtPhase p' := by
  obtain ⟨hphase, -, hissued⟩ := h
  refine ⟨hp hphase, ?_, ?_⟩
  · simp [clockAfter_append, clockAfter]
  · simp [issuedClocked_append, hissued, issuedClocked]

theorem State.AtPhase.clockDisabled {s : State} {p p' : PowerPhase} (h : s.AtPhase p)
    (hp : s.inPhase p = true → { s with clkEn := false }.inPhase p' = true) :
    ({ s with clkEn := false }.emit .clkOff).AtPhase p' := by
  obtain ⟨hphase, -, hissued⟩ := h
  refine ⟨hp hphase, ?_, ?_⟩
  · simp [clockAfter_append, clockAfter]
  · simp [issuedClocked_append, hissued, issuedClocked]

/-- A transaction goes out, or is in flight already, with the clock enabled (R89). -/
theorem State.AtPhase.issue {s : State} {p : PowerPhase} (h : s.AtPhase p) (hclk : s.clkEn = true) (t : Transaction) :
    (s.issue t).AtPhase p := by
  cases hb : s.bus with
  | some u => rw [issue_of_inFlight t hb]; exact h
  | none =>
    obtain ⟨hphase, hafter, hissued⟩ := h
    rw [issue_of_idle t hb]
    refine ⟨hphase, ?_, ?_⟩
    · simp [clockAfter_append, clockAfter, hafter]
    · simp [issuedClocked_append, issuedClocked, hissued, hafter, hclk]

/-- The clock is enabled in the phase of a bus action, and so R55 holds if the action ends the command. -/
theorem clkEn_of_inPhase {s : State} {p : PowerPhase} (hp : p = .on ∨ p = .clocked) (h : s.inPhase p = true) :
    s.clkEn = true := by
  rcases hp with rfl | rfl
  · exact (Bool.and_eq_true_iff.mp h).2
  · exact (Bool.and_eq_true_iff.mp h).2

theorem inPhase_balanced_of_clkEn {s : State} (h : s.clkEn = true) : s.inPhase .balanced = true := by
  simp [State.inPhase, h]

/-! ### Actions from phase to phase -/

/-- At index `k` of a script whose phases are `ph`, action `a` carries the phases on. -/
def Paced (ph : Nat → PowerPhase) (k : Nat) (a : Action) : Prop :=
  ∀ s : State, s.AtPhase (ph k) →
    Meets (fun k s => State.AtPhase s (ph k)) (fun s => s.AtPhase .balanced) k (a s)

theorem meets_of_ended {ann : Nat → State → Prop} {done : State → Prop} {k : Nat} {t : State} (hr : t.running = false)
    (h : done t) : Meets ann done k (.halt t) :=
  ⟨fun hr' => (nomatch hr.symm.trans hr'), fun _ => h⟩

namespace Paced

variable {ph : Nat → PowerPhase} {k : Nat} {p p' : PowerPhase}

theorem raiseIf {c : State → Bool} {code : ResultCode} (hp : ph k = p) (hp' : ph (k + 1) = p')
    (hstop : ∀ s : State, c s = true → s.inPhase p = true → s.inPhase .balanced = true)
    (hgo : ∀ s : State, c s = false → s.inPhase p = true → s.inPhase p' = true) : Paced ph k (raiseIf c code) := by
  subst hp hp'
  intro s h
  cases hc : c s with
  | false => rw [raiseIf_of_false code hc]; exact h.weaken (hgo s hc)
  | true => rw [raiseIf_of_true code hc]; exact meets_of_ended rfl (h.congr rfl rfl (hstop s hc))

theorem completeIf {c : State → Bool} (hp : ph k = p) (hp' : ph (k + 1) = p')
    (hstop : ∀ s : State, c s = true → s.inPhase p = true → s.inPhase .balanced = true)
    (hgo : ∀ s : State, c s = false → s.inPhase p = true → s.inPhase p' = true) : Paced ph k (completeIf c) := by
  subst hp hp'
  intro s h
  cases hc : c s with
  | false => rw [completeIf_of_false hc]; exact h.weaken (hgo s hc)
  | true => rw [completeIf_of_true hc]; exact meets_of_ended rfl (h.congr rfl rfl (hstop s hc))

theorem skipIf {c : State → Bool} {n : Nat} {far : PowerPhase} (hp : ph k = p) (hfar : ph (k + n + 1) = far)
    (hp' : ph (k + 1) = p')
    (hskip : ∀ s : State, c s = true → s.inPhase p = true → s.inPhase far = true)
    (hgo : ∀ s : State, c s = false → s.inPhase p = true → s.inPhase p' = true) : Paced ph k (skipIf c n) := by
  subst hp hp' hfar
  intro s h
  cases hc : c s with
  | false => rw [skipIf_of_false n hc]; exact h.weaken (hgo s hc)
  | true => rw [skipIf_of_true n hc]; exact h.weaken (hskip s hc)

/-- A change of elements other than CLK_EN. -/
theorem update {f : State → State} (hp : ph k = p) (hp' : ph (k + 1) = p') (hlog : ∀ s, (f s).log = s.log)
    (hclk : ∀ s, (f s).clkEn = s.clkEn) (hgo : ∀ s : State, s.inPhase p = true → (f s).inPhase p' = true) :
    Paced ph k (update f) := by
  subst hp hp'
  exact fun s h => h.congr (hlog s) (hclk s) (hgo s)

theorem completeOk (hp : ph k = p) (h : ∀ s : State, s.inPhase p = true → s.inPhase .balanced = true) :
    Paced ph k completeOk := by
  subst hp
  exact fun s hs => meets_of_ended rfl (hs.congr rfl rfl (h s))

theorem clockEnable (hp : ph k = p) (hp' : ph (k + 1) = p')
    (hgo : ∀ s : State, s.inPhase p = true → { s with clkEn := true }.inPhase p' = true) :
    Paced ph k clockEnable := by
  subst hp hp'
  exact fun s h => h.clockEnabled (hgo s)

theorem clockDisable (hp : ph k = p) (hp' : ph (k + 1) = p')
    (hgo : ∀ s : State, s.inPhase p = true → { s with clkEn := false }.inPhase p' = true) :
    Paced ph k clockDisable := by
  subst hp hp'
  exact fun s h => h.clockDisabled (hgo s)

theorem delay (hp : ph k = p) (hp' : ph (k + 1) = p) : Paced ph k delay :=
  fun s h => h.append rfl rfl rfl fun h => by rwa [hp', ← hp]

/-- A transaction issued with the clock enabled. -/
theorem meets_transact {t : State → Transaction} {onAck : Word → State → State} {s : State}
    (hack : ∀ d s, (onAck d s).log = s.log ∧ (onAck d s).clkEn = s.clkEn ∧ (onAck d s).powerCount = s.powerCount)
    (hnext : ph (k + 1) = ph k) (h : s.AtPhase (ph k)) (hclk : s.clkEn = true) :
    Meets (fun k s => State.AtPhase s (ph k)) (fun s => s.AtPhase .balanced) k (transact t onAck s) := by
  have hissued := h.issue hclk (t s)
  have hphase {u : State} (hc : u.powerCount = s.powerCount) (hk : u.clkEn = s.clkEn) (p : PowerPhase) :
      u.inPhase p = s.inPhase p := by
    cases p <;> simp [State.inPhase, State.powered, hc, hk]
  rcases transact_cases t onAck s with ⟨d, rest, -, hs⟩ | ⟨rest, -, hs⟩ | ⟨-, hs⟩ <;> rw [hs]
  · obtain ⟨hlog, hclkEn, hcount⟩ := hack d (((s.issue (t s)).answered (.ack d) rest).shadowed (t s))
    have hcount' := hcount.trans (show _ = s.powerCount by simp)
    have hclkEn' := hclkEn.trans (show _ = s.clkEn by simp)
    refine hissued.append (e := .answer (.ack d)) rfl (hlog.trans (by simp)) (hclkEn'.trans (by simp)) fun _ => ?_
    rw [hphase hcount' hclkEn', Nat.add_zero, hnext]
    exact h.1
  · refine meets_of_ended rfl (hissued.append (e := .answer .error) rfl (by simp) (by simp) fun _ => ?_)
    exact inPhase_balanced_of_clkEn (by simpa using hclk)
  · exact ⟨fun _ => hissued, fun hr => hissued.weaken fun _ => inPhase_balanced_of_clkEn (by simpa using hclk)⟩

/-- A transaction in a phase that stays and has the clock enabled. -/
theorem transact {t : State → Transaction} {onAck : Word → State → State} (hp : ph k = p)
    (hp' : ph (k + 1) = p) (hclk : p = .on ∨ p = .clocked)
    (hack : ∀ d s, (onAck d s).log = s.log ∧ (onAck d s).clkEn = s.clkEn ∧ (onAck d s).powerCount = s.powerCount) :
    Paced ph k (transact t onAck) :=
  fun _ h => meets_transact hack (hp'.trans hp.symm) h (clkEn_of_inPhase hclk (hp ▸ h.1))

theorem memWriteThen {r : State → Byte} {v : State → Word} {f : State → State} (hp : ph k = p) (hp' : ph (k + 1) = p)
    (hclk : p = .on ∨ p = .clocked)
    (hf : ∀ s, (f s).log = s.log ∧ (f s).clkEn = s.clkEn ∧ (f s).powerCount = s.powerCount) :
    Paced ph k (memWriteThen r v f) :=
  .transact hp hp' hclk fun _ => hf

theorem memWrite {r : Byte} {v : State → Word} (hp : ph k = p) (hp' : ph (k + 1) = p) (hclk : p = .on ∨ p = .clocked) :
    Paced ph k (memWrite r v) :=
  .memWriteThen hp hp' hclk fun _ => ⟨rfl, rfl, rfl⟩

theorem onlyIf {c : State → Bool} {a : Action} (hp : ph k = p) (hp' : ph (k + 1) = p) (ha : Paced ph k a) :
    Paced ph k (onlyIf c a) := by
  intro s h
  cases hc : c s with
  | false => rw [onlyIf_of_false a hc]; exact h.weaken fun h => by rwa [hp', ← hp]
  | true => rw [onlyIf_of_true a hc]; exact ha s h

/-- A write that a powered controller makes only (R200): R55 then says that the clock is enabled. -/
theorem writeIfPowered {r : Byte} {v : State → Word} (hp : ph k = .balanced) (hp' : ph (k + 1) = .balanced) :
    Paced ph k (Machine.onlyIf State.powered (Machine.memWrite r v)) := by
  intro s h
  cases hc : s.powered with
  | false => rw [onlyIf_of_false _ hc]; exact h.weaken fun h => by rwa [hp', ← hp]
  | true =>
    have hclk : s.clkEn = true := by
      have hbalanced := hp ▸ h.1
      simpa [State.inPhase, hc] using hbalanced
    rw [onlyIf_of_true _ hc]
    exact meets_transact (t := fun u => ⟨u.params.devAddr, r, .write (v u)⟩) (onAck := fun _ u => u)
      (fun _ _ => ⟨rfl, rfl, rfl⟩) (hp'.trans hp.symm) h hclk

/-- An action that needs no phase of its own keeps R55 and the record. -/
theorem ofShape {i : Instr} {codes : List ResultCode} {a : Action} (h : Shape i codes a)
    (hi : i ∉ clockWriters ++ busUsers) (hph : ∀ k, ph k = .balanced) : Paced ph k a := by
  intro s hs
  have hcount : i ∉ countWriters := fun hmem => hi (by revert hmem; simp; tauto)
  have hclock : i ∉ clockWriters := fun hmem => hi (List.mem_append_left _ hmem)
  have hframe {t : State} (hf : Frame i s t) : t.AtPhase .balanced := by
    refine State.AtPhase.congr (hph k ▸ hs) (hf.log.of_not_mem hi) (hf.clkEn.of_not_mem hclock) fun hb => ?_
    simpa [State.inPhase, State.powered, hf.powerCount.of_not_mem hcount, hf.clkEn.of_not_mem hclock] using hb
  have hstep := h.proceeds s
  cases hg : a s with
  | go n t =>
    rw [hg] at hstep
    simpa only [Meets, hph] using hframe hstep.toFrame
  | halt t =>
    rw [hg] at hstep
    have ht := hstep.elim (hframe ·.toFrame) (hframe ·.toFrame)
    exact ⟨fun _ => by simpa only [hph] using ht, fun _ => ht⟩

end Paced

end Sys2Proof.Machine

namespace Sys2Proof.Machine

/-! ### The phases of every script -/

section
variable {ph : Nat → PowerPhase}

/-- The script's part from index `k` carries the phases `ph` on. -/
def PacedFrom (ph : Nat → PowerPhase) (k : Nat) (as : List Action) : Prop :=
  Annotated (fun k s => State.AtPhase s (ph k)) (fun s => s.AtPhase .balanced) k as

theorem inPhase_balanced_of_cold {s : State} (h : s.inPhase .cold = true) : s.inPhase .balanced = true := by
  simp_all [State.inPhase]

theorem inPhase_balanced_of_on {s : State} (h : s.inPhase .on = true) : s.inPhase .balanced = true := by
  simp_all [State.inPhase]

theorem inPhase_clocked_iff (s : State) :
    s.inPhase .clocked = true ↔ s.inPhase .cold = true ∧ s.clkEn = true := by
  simp [State.inPhase]

/-- A check between commands' phases, at which R55 holds on either side. -/
theorem paced_check {k : Nat} {c : State → Bool} {code : ResultCode} (hp : ph k = .balanced)
    (hp' : ph (k + 1) = .balanced) : Paced ph k (raiseIf c code) :=
  Paced.raiseIf hp hp' (fun _ _ hs => hs) (fun _ _ hs => hs)

/-- Behind the power check the count is positive, and so the clock is on (R55). -/
theorem paced_powerCheck {k : Nat} (hp : ph k = .balanced) (hp' : ph (k + 1) = .on) :
    Paced ph k (raiseIf (fun s => !s.powered) .precondition) := by
  refine Paced.raiseIf hp hp' (fun _ _ hs => hs) fun s hc hs => ?_
  simp_all [State.inPhase]

/-- POWER_UP and OPEN pass over the power-on branch when the count is positive. -/
theorem paced_skipCold {k n : Nat} (hp : ph k = .balanced) (hfar : ph (k + n + 1) = .on) (hp' : ph (k + 1) = .cold) :
    Paced ph k (skipIf State.powered n) := by
  refine Paced.skipIf hp hfar hp' (fun s hc hs => ?_) fun s hc hs => ?_
  · simp_all [State.inPhase]
  · simp [State.inPhase, hc]

theorem paced_countUp {k : Nat} (hp : ph k = .on) (hp' : ph (k + 1) = .balanced) :
    Paced ph k (update fun s => s.withCount (s.powerCount + 1)) := by
  refine Paced.update hp hp' (fun _ => rfl) (fun _ => rfl) fun s hs => ?_
  have hclk : s.clkEn = true := clkEn_of_inPhase (.inl rfl) hs
  exact inPhase_balanced_of_clkEn (s := s.withCount (s.powerCount + 1)) hclk

theorem paced_complete {k : Nat} (hp : ph k = .balanced) : Paced ph k completeOk :=
  Paced.completeOk hp fun _ hs => hs

/-- The power-on branch from count 0, from wherever a script holds it (R141, R143). -/
theorem paced_coldBranch {k : Nat} (h : ∀ j, j < 20 → ph (k + j) = coldPhase j) : PacedFrom ph k coldBranch := by
  simp only [PacedFrom, coldBranch, physOn, replay, List.cons_append, List.nil_append, Annotated, and_true]
  refine ⟨?absent, ?enable, ?delay, ?read, ?check, ?disable, ?mark, ?refuse, ?reset1, ?reset0, ?chipControl,
    ?pixelClock, ?rowNoise, ?agc, ?gain, ?aec, ?exposure, ?pattern, ?count, ?complete⟩
  case absent =>
    exact Paced.raiseIf (p := .cold) (p' := .cold) (h 0 (by decide)) (h 1 (by decide))
      (fun _ _ => inPhase_balanced_of_cold) (fun _ _ hs => hs)
  case enable =>
    exact Paced.clockEnable (p := .cold) (p' := .clocked) (h 1 (by decide)) (h 2 (by decide))
      fun _ hs => (inPhase_clocked_iff _).mpr ⟨hs, rfl⟩
  case delay => exact Paced.delay (h 2 (by decide)) (h 3 (by decide))
  case read => exact Paced.transact (h 3 (by decide)) (h 4 (by decide)) (.inr rfl) fun _ _ => ⟨rfl, rfl, rfl⟩
  case check =>
    exact Paced.skipIf (h 4 (by decide)) (h 8 (by decide)) (h 5 (by decide)) (fun _ _ hs => hs) (fun _ _ hs => hs)
  case disable =>
    exact Paced.clockDisable (p := .clocked) (p' := .cold) (h 5 (by decide)) (h 6 (by decide))
      fun s hs => ((inPhase_clocked_iff s).mp hs).1
  case mark =>
    exact Paced.update (h 6 (by decide)) (h 7 (by decide)) (fun _ => rfl) (fun _ => rfl) fun _ hs => hs
  case refuse =>
    exact Paced.raiseIf (p := .cold) (p' := .clocked) (h 7 (by decide)) (h 8 (by decide))
      (fun _ _ => inPhase_balanced_of_cold) (fun _ hc => nomatch hc)
  case reset1 => exact Paced.memWrite (h 8 (by decide)) (h 9 (by decide)) (.inr rfl)
  case reset0 => exact Paced.memWrite (h 9 (by decide)) (h 10 (by decide)) (.inr rfl)
  case chipControl =>
    exact Paced.memWriteThen (h 10 (by decide)) (h 11 (by decide)) (.inr rfl) fun _ => ⟨rfl, rfl, rfl⟩
  case pixelClock =>
    exact Paced.onlyIf (h 11 (by decide)) (h 12 (by decide))
      (Paced.memWriteThen (h 11 (by decide)) (h 12 (by decide)) (.inr rfl) fun _ => ⟨rfl, rfl, rfl⟩)
  case rowNoise => exact Paced.memWrite (h 12 (by decide)) (h 13 (by decide)) (.inr rfl)
  case agc => exact Paced.memWrite (h 13 (by decide)) (h 14 (by decide)) (.inr rfl)
  case gain => exact Paced.memWrite (h 14 (by decide)) (h 15 (by decide)) (.inr rfl)
  case aec => exact Paced.memWrite (h 15 (by decide)) (h 16 (by decide)) (.inr rfl)
  case exposure => exact Paced.memWrite (h 16 (by decide)) (h 17 (by decide)) (.inr rfl)
  case pattern => exact Paced.memWrite (h 17 (by decide)) (h 18 (by decide)) (.inr rfl)
  case count =>
    exact Paced.update (p := .clocked) (p' := .balanced) (h 18 (by decide)) (h 19 (by decide)) (fun _ => rfl)
      (fun _ => rfl) fun s hs => inPhase_balanced_of_clkEn (s := s.withCount 1) ((inPhase_clocked_iff s).mp hs).2
  case complete => exact paced_complete (h 19 (by decide))

theorem paced_controlScript {legal : State → Bool} {r : Byte} {v : State → Word} {cache : State → State}
    (hph : ∀ k, ph k = .balanced)
    (hcache : ∀ s, (cache s).log = s.log ∧ (cache s).clkEn = s.clkEn ∧ (cache s).powerCount = s.powerCount) :
    PacedFrom ph 0 (controlScript legal r v cache) := by
  refine ⟨?prologue, ?range, ?write, ?cache, ?complete, trivial⟩
  case prologue | range => exact paced_check (hph _) (hph _)
  case write => exact Paced.writeIfPowered (hph _) (hph _)
  case cache =>
    refine Paced.update (hph _) (hph _) (fun s => (hcache s).1) (fun s => (hcache s).2.1) fun s hs => ?_
    simpa [State.inPhase, State.powered, hcache s] using hs
  case complete => exact paced_complete (hph _)

theorem falling_balanced {s : State} (h : s.inPhase .falling = true) :
    (s.withCount (s.powerCount - 1)).inPhase .balanced = true := by
  simp only [State.inPhase, State.powered, Bool.and_eq_true, Bool.or_eq_true, beq_iff_eq, State.withCount_powerCount,
    State.withCount_clkEn] at h ⊢
  obtain ⟨-, hone | hclk⟩ := h
  · simp [hone]
  · exact .inr hclk

/-- The release pseudocode, whose clock goes off with the last count (R144, R251). -/
theorem paced_releaseScript (h : ∀ k, ph k = powerPhase .powerDown k) : PacedFrom ph 0 releaseScript := by
  refine ⟨?prologue, ?counted, ?last, ?disable, ?count, ?complete, trivial⟩
  case prologue => exact paced_check (h _) (h _)
  case counted => exact paced_powerCheck (h _) (h _)
  case last =>
    refine Paced.skipIf (p := .on) (far := .falling) (p' := .last) (h _) (h _) (h _) (fun s hc hs => ?_)
      fun s hc hs => ?_
    · simp_all [State.inPhase]
    · simpa [State.inPhase] using hc
  case disable =>
    refine Paced.clockDisable (p := .last) (p' := .falling) (h _) (h _) fun s hs => ?_
    simp_all [State.inPhase, State.powered]
  case count =>
    exact Paced.update (p := .falling) (p' := .balanced) (h _) (h _) (fun _ => rfl) (fun _ => rfl)
      fun _ => falling_balanced
  case complete => exact paced_complete (h _)

end

theorem paced_powerUp : PacedFrom (powerPhase .powerUp) 0 powerUpScript := by
  have hcold : PacedFrom (powerPhase .powerUp) 2 coldBranch := by
    refine paced_coldBranch fun j hj => ?_
    have hlow : ¬ 2 + j < 2 := by omega
    have hhigh : 2 + j < 22 := by omega
    simp only [powerPhase, if_neg hlow, if_pos hhigh, Nat.add_sub_cancel_left]
  refine Annotated.append (Annotated.append ⟨?prologue, ?powered, trivial⟩ hcold) ⟨?max, ?count, ?complete, trivial⟩
  case prologue => exact paced_check rfl rfl
  case powered => exact paced_skipCold rfl rfl rfl
  case max => exact Paced.raiseIf (p := .on) rfl rfl (fun _ _ => inPhase_balanced_of_on) fun _ _ hs => hs
  case count => exact paced_countUp rfl rfl
  case complete => exact paced_complete rfl

theorem paced_openSession : PacedFrom (powerPhase .openSession) 0 openScript := by
  have hcold : PacedFrom (powerPhase .openSession) 4 coldBranch := by
    refine paced_coldBranch fun j hj => ?_
    have hlow : ¬ 4 + j < 4 := by omega
    have hhigh : 4 + j < 24 := by omega
    simp only [powerPhase, if_neg hlow, if_pos hhigh, Nat.add_sub_cancel_left]
  refine Annotated.append (Annotated.append ⟨?prologue, ?max, ?fresh, ?powered, trivial⟩ hcold)
    ⟨?count, ?complete, trivial⟩
  case prologue | max => exact paced_check rfl rfl
  case fresh => exact Paced.update (p := .balanced) rfl rfl (fun _ => rfl) (fun _ => rfl) fun _ hs => hs
  case powered => exact paced_skipCold rfl rfl rfl
  case count => exact paced_countUp rfl rfl
  case complete => exact paced_complete rfl

theorem paced_teardown : PacedFrom (powerPhase .teardown) 0 teardownScript := by
  refine ⟨?prologue, ?powered, ?disable, ?detach, ?complete, trivial⟩
  case prologue => exact paced_check rfl rfl
  case powered =>
    refine Paced.raiseIf (p := .balanced) (p' := .cold) rfl rfl (fun _ _ hs => hs) fun s hc hs => ?_
    simp [State.inPhase, hc]
  case disable => exact Paced.clockDisable (p := .cold) rfl rfl fun _ hs => hs
  case detach => exact Paced.update (p := .cold) rfl rfl (fun _ => rfl) (fun _ => rfl) fun _ hs => hs
  case complete => exact Paced.completeOk (p := .cold) rfl fun _ => inPhase_balanced_of_cold

theorem paced_streamOn : PacedFrom (powerPhase .streamOn) 0 streamOnScript := by
  refine ⟨?prologue, ?powered, ?streaming, ?rejected, ?w0, ?w1, ?w2, ?w3, ?w4, ?w5, ?start, ?complete, trivial⟩
  case prologue => exact paced_check rfl rfl
  case powered => exact paced_powerCheck rfl rfl
  case streaming => exact Paced.completeIf (p := .on) rfl rfl (fun _ _ => inPhase_balanced_of_on) fun _ _ hs => hs
  case rejected => exact Paced.raiseIf (p := .on) rfl rfl (fun _ _ => inPhase_balanced_of_on) fun _ _ hs => hs
  case w0 | w1 | w2 | w3 | w4 | w5 => exact Paced.memWrite rfl rfl (.inl rfl)
  case start => exact Paced.memWriteThen (p := .on) rfl rfl (.inl rfl) fun _ => ⟨rfl, rfl, rfl⟩
  case complete => exact Paced.completeOk (p := .on) rfl fun _ => inPhase_balanced_of_on

theorem paced_streamOff : PacedFrom (powerPhase .streamOff) 0 streamOffScript := by
  refine ⟨?prologue, ?idle, ?powered, ?stop, ?complete, trivial⟩
  case prologue => exact paced_check rfl rfl
  case idle => exact Paced.completeIf (p := .balanced) rfl rfl (fun _ _ hs => hs) (fun _ _ hs => hs)
  case powered => exact paced_powerCheck rfl rfl
  case stop => exact Paced.memWriteThen (p := .on) rfl rfl (.inl rfl) fun _ => ⟨rfl, rfl, rfl⟩
  case complete => exact Paced.completeOk (p := .on) rfl fun _ => inPhase_balanced_of_on

/-- A command that neither moves the clock nor uses the bus needs no phase of its own. -/
theorem powerPhase_of_unclocked {i : Instr} (hi : i ∉ clockWriters ++ busUsers) (k : Nat) :
    powerPhase i k = .balanced := by
  cases i
  case setCrop | getCrop | setFormat | getFormat | enumCode | enumSize | setFrameInterval | getFrameInterval => rfl
  all_goals exact absurd (by decide) hi

theorem paced_unclocked {i : Instr} (hi : i ∉ clockWriters ++ busUsers) : PacedFrom (powerPhase i) 0 (scriptOf i) :=
  Annotated.of_forall 0 fun a ha _ =>
    Paced.ofShape (scriptOf_shapes_prologue i a ha) hi (powerPhase_of_unclocked hi)

/-- Every script carries its command's phases on. -/
theorem paced_scriptOf (i : Instr) : PacedFrom (powerPhase i) 0 (scriptOf i) := by
  cases i
  case powerUp => exact paced_powerUp
  case openSession => exact paced_openSession
  case powerDown => exact paced_releaseScript fun _ => rfl
  case closeSession => exact paced_releaseScript fun _ => rfl
  case teardown => exact paced_teardown
  case streamOn => exact paced_streamOn
  case streamOff => exact paced_streamOff
  case setAutoGain => exact paced_controlScript (fun _ => rfl) fun _ => ⟨rfl, rfl, rfl⟩
  case setAnalogGain => exact paced_controlScript (fun _ => rfl) fun _ => ⟨rfl, rfl, rfl⟩
  case setAutoExposure => exact paced_controlScript (fun _ => rfl) fun _ => ⟨rfl, rfl, rfl⟩
  case setExposure => exact paced_controlScript (fun _ => rfl) fun _ => ⟨rfl, rfl, rfl⟩
  case setTestPattern => exact paced_controlScript (fun _ => rfl) fun _ => ⟨rfl, rfl, rfl⟩
  all_goals exact paced_unclocked (by simp)

/-! ### The power invariant -/

theorem phase_of_idle {s : State} (h : s.seq = none) : s.phase = .balanced := by
  simp [State.phase, h]

theorem phase_of_illegal {s : State} {why : Illegal} (h : decode s.cmd = .illegal why) : s.phase = .balanced := by
  unfold State.phase
  split
  · rename_i hd; rw [h] at hd; cases hd
  · rfl

theorem phase_of_command {s : State} {q : Seq} {i : Instr} (hq : s.seq = some q) (hd : decode s.cmd = .command i) :
    s.phase = powerPhase i q.step := by
  simp [State.phase, hq, hd]

theorem powerPhase_zero (i : Instr) : powerPhase i 0 = .balanced := by
  cases i <;> rfl

/-- Every command starts in the phase that holds between commands. -/
theorem phase_accept (s : State) (w : Word32) : (s.accept w).phase = .balanced := by
  cases hd : decode w with
  | illegal why => exact phase_of_illegal (s := s.accept w) hd
  | command i => rw [phase_of_command (s := s.accept w) rfl hd]; exact powerPhase_zero i

theorem powerInv_iff (s : State) : s.PowerInv ↔ s.AtPhase s.phase := Iff.rfl

theorem powerInv_hostAccess {s : State} (a : Access) (hseq : s.SequencerInv) (h : s.PowerInv) :
    (s.hostAccess a).PowerInv := by
  cases a with
  | read offset =>
    exact State.AtPhase.append (p' := s.phase) h (e := .hostRead offset (s.hostWord offset)) rfl rfl rfl id
  | write offset v =>
    simp only [State.hostAccess]
    rcases hostWrite_cases s offset v with ⟨-, hidle, hw⟩ | ⟨-, q, hw⟩ | hw <;> rw [hw]
    · obtain ⟨hbusy, -⟩ := hseq
      have hnone : s.seq = none := by simpa [State.running] using hbusy.symm.trans hidle
      rw [powerInv_iff, phase_of_idle hnone] at h
      rw [powerInv_iff, phase_accept]
      exact h
    · exact h
    · exact h

theorem powerInv_assertRst {s : State} (ok : Bool) (h : s.PowerInv) : (s.assertRst ok).PowerInv := by
  obtain ⟨-, -, hissued⟩ := h
  refine ⟨rfl, ?_, ?_⟩
  · simp [clockAfter_append, clockAfter]
  · simp [issuedClocked_append, hissued, issuedClocked]

theorem powerInv_runAction {s : State} {i : Instr} (hr : s.running = true) (hd : decode s.cmd = .command i)
    (h : s.PowerInv) : (runAction (scriptOf i) s).PowerInv := by
  obtain ⟨q, hq⟩ := Option.isSome_iff_exists.mp hr
  rw [powerInv_iff, phase_of_command hq hd] at h
  rw [powerInv_iff]
  rcases runAction_annotated (paced_scriptOf i) (fun _ _ _ h => h) hq h with ⟨q', hq', hcmd, h'⟩ | ⟨hnone, h'⟩
  · rw [phase_of_command hq' (by rw [hcmd, hd])]
    exact h'
  · rw [phase_of_idle hnone]
    exact h'

/-- Settles O53: kept together with the sequencer's invariant, which says that an accepted command finds none running;
an action carries the phases on (`paced_scriptOf`). -/
theorem powerInvariantKept : Obligations.PowerInvariantKept := by
  intro s t hseq hpower hs
  refine (step_keeps (fun s => s.SequencerInv ∧ s.PowerInv) ?inputs ?access ?assert ?release ?illegal ?action
    ⟨hseq, hpower⟩ hs).2
  case inputs => exact fun s l ⟨hs, hp⟩ => ⟨sequencerInv_traffic hs s.arg l s.log, hp⟩
  case access => exact fun s a ⟨hs, hp⟩ => ⟨sequencerInv_hostAccess a hs, powerInv_hostAccess a hs hp⟩
  case assert => exact fun s ok ⟨_, hp⟩ => ⟨sequencerInv_assertRst s ok, powerInv_assertRst ok hp⟩
  case release => exact fun s ⟨hs, hp⟩ => ⟨sequencerInv_releaseRst hs, hp⟩
  case illegal =>
    refine fun s why _ hd ⟨hs, hp⟩ =>
      ⟨sequencerInv_complete _ (sequencerInv_bus_none hs (nextTransaction_of_illegal hd)), ?_⟩
    rw [powerInv_iff, phase_of_illegal hd] at hp
    exact hp
  case action =>
    exact fun s i hr hd ⟨hs, hp⟩ => ⟨sequencerInv_performed hs hr (performed_runAction hd), powerInv_runAction hr hd hp⟩

end Sys2Proof.Machine

namespace Sys2Proof.Machine

/-! ### The control cache -/

/-- The commands that write neither a cached control with a range nor FI_DEN. -/
def cacheReaders : List Instr :=
  [.powerUp, .powerDown, .teardown, .setCrop .active, .setCrop .attempt, .getCrop .active, .getCrop .attempt,
    .setFormat .active, .setFormat .attempt, .getFormat .active, .getFormat .attempt, .setAutoGain, .setAutoExposure,
    .streamOn, .streamOff, .openSession, .closeSession, .enumCode, .enumSize, .getFrameInterval]

theorem Frame.cacheLegal {i : Instr} {s t : State} (h : Frame i s t) (hi : i ∈ cacheReaders) (hs : s.CacheLegal) :
    t.CacheLegal := by
  have hoff : i ∉ [Instr.setAnalogGain] ∧ i ∉ [Instr.setExposure] ∧ i ∉ [Instr.setTestPattern] ∧
      i ∉ [Instr.setFrameInterval] := by
    clear h
    revert i
    decide
  obtain ⟨hgain, hexp, htp, hfi⟩ := hoff
  rw [State.CacheLegal, h.params, h.ctlGain.of_not_mem hgain, h.ctlExp.of_not_mem hexp, h.ctlTp.of_not_mem htp,
    h.fiDen.of_not_mem hfi]
  exact hs

/-- What holds at the `k`-th action of a command that caches an operand with a range: the cache is legal, and behind
the range check, which is action 1, so is the operand (R200, R254). -/
def Checked (legal : State → Bool) (k : Nat) (s : State) : Prop := s.CacheLegal ∧ (k < 2 ∨ legal s = true)

/-- The range `legal` is one of the latched operands and the parameters. -/
def OfOperands (legal : State → Bool) : Prop :=
  ∀ s t : State, t.larg = s.larg → t.params = s.params → legal t = legal s

section
variable {legal : State → Bool}

theorem checked_prologue {k : Nat} (hk : k + 1 < 2) (s : State) (h : Checked legal k s) :
    Meets (Checked legal) State.CacheLegal k (prologue s) := by
  obtain ⟨hcache, -⟩ := h
  unfold prologue
  cases hc : s.failed || s.detached with
  | false => rw [raiseIf_of_false _ hc]; exact ⟨hcache, .inl hk⟩
  | true => rw [raiseIf_of_true _ hc]; exact meets_of_ended rfl hcache

theorem checked_range {k : Nat} {code : ResultCode} (s : State) (h : Checked legal k s) :
    Meets (Checked legal) State.CacheLegal k (raiseIf (fun s => !legal s) code s) := by
  obtain ⟨hcache, -⟩ := h
  cases hc : legal s with
  | false => rw [raiseIf_of_true _ (by simpa using hc)]; exact meets_of_ended rfl hcache
  | true => rw [raiseIf_of_false _ (by simpa using hc)]; exact ⟨hcache, .inr hc⟩

/-- Behind the check, an action that could stand in the script of a command that does not write the cache. -/
theorem checked_of_shape {i : Instr} {codes : List ResultCode} {a : Action} {k : Nat} (hlegal : OfOperands legal)
    (ha : Shape i codes a) (hi : i ∈ cacheReaders) (hk : 2 ≤ k) (s : State) (h : Checked legal k s) :
    Meets (Checked legal) State.CacheLegal k (a s) := by
  obtain ⟨hcache, hchecked⟩ := h
  have hok : legal s = true := hchecked.resolve_left (by omega)
  have hstep := ha.proceeds s
  have hframe {t : State} (hf : Frame i s t) (m : Nat) : Checked legal m t :=
    ⟨hf.cacheLegal hi hcache, .inr ((hlegal s t hf.larg hf.params).trans hok)⟩
  cases hg : a s with
  | go n t =>
    rw [hg] at hstep
    exact hframe hstep.toFrame _
  | halt t =>
    rw [hg] at hstep
    have ht := hstep.elim (hframe ·.toFrame k) (hframe ·.toFrame k)
    exact ⟨fun _ => ht, fun _ => ht.1⟩

/-- The cache takes an operand that has been checked. -/
theorem checked_cache {cache : State → State} {k : Nat} (hlegal : OfOperands legal)
    (hframe : ∀ s, (cache s).larg = s.larg ∧ (cache s).params = s.params)
    (hcache : ∀ s, s.CacheLegal → legal s = true → (cache s).CacheLegal) (hk : 2 ≤ k) (s : State)
    (h : Checked legal k s) : Meets (Checked legal) State.CacheLegal k (update cache s) := by
  obtain ⟨hcl, hchecked⟩ := h
  have hok : legal s = true := hchecked.resolve_left (by omega)
  exact ⟨hcache s hcl hok, .inr ((hlegal s _ (hframe s).1 (hframe s).2).trans hok)⟩

theorem checked_controlScript {r : Byte} {v : State → Word} {cache : State → State} (hlegal : OfOperands legal)
    (hv : Blind v) (hcc : r ≠ regChipControl) (haa : r ≠ regAecAgcEnable)
    (hframe : ∀ s, (cache s).larg = s.larg ∧ (cache s).params = s.params)
    (hcache : ∀ s, s.CacheLegal → legal s = true → (cache s).CacheLegal) :
    Annotated (Checked legal) State.CacheLegal 0 (controlScript legal r v cache) := by
  have hwrite : Shape .powerUp (resultsOf .powerUp) (onlyIf State.powered (memWrite r v)) :=
    .onlyIf (fun _ _ _ _ _ => rfl) (.memWrite hv hcc haa (by simp) (by decide))
  have hend : Shape .powerUp (resultsOf .powerUp) completeOk := .completeOk (by decide)
  exact ⟨checked_prologue (by decide), checked_range, checked_of_shape hlegal hwrite (by decide) (by decide),
    checked_cache hlegal hframe hcache (by decide), checked_of_shape hlegal hend (by decide) (by decide), trivial⟩

end

/-- The range of the operand that a command caches, if it caches one with a range (R201, R254). -/
def rangeOf : Instr → Option (State → Bool)
  | .setAnalogGain => some legalGain
  | .setExposure => some legalExposure
  | .setTestPattern => some legalPattern
  | .setFrameInterval => some State.intervalLegal
  | .powerUp | .powerDown | .teardown | .setCrop _ | .getCrop _ | .setFormat _ | .getFormat _ | .setAutoGain
  | .setAutoExposure | .streamOn | .streamOff | .openSession | .closeSession | .enumCode | .enumSize
  | .getFrameInterval => none

theorem mem_cacheReaders_of_rangeOf {i : Instr} (h : rangeOf i = none) : i ∈ cacheReaders := by
  cases i
  case setAnalogGain | setExposure | setTestPattern | setFrameInterval => cases h
  case setCrop w | getCrop w | setFormat w | getFormat w => cases w <;> decide
  all_goals decide

theorem operandChecked_of_idle {s : State} (h : s.seq = none) : s.operandChecked = true := by
  simp [State.operandChecked, h]

theorem operandChecked_of_illegal {s : State} {why : Illegal} (h : decode s.cmd = .illegal why) :
    s.operandChecked = true := by
  cases hq : s.seq <;> simp [State.operandChecked, h, hq]

theorem operandChecked_of_unranged {s : State} {i : Instr} (hd : decode s.cmd = .command i) (h : rangeOf i = none) :
    s.operandChecked = true := by
  cases hq : s.seq with
  | none => exact operandChecked_of_idle hq
  | some q => cases i <;> simp_all [State.operandChecked, rangeOf]

theorem operandChecked_of_ranged {s : State} {q : Seq} {i : Instr} {legal : State → Bool} (hq : s.seq = some q)
    (hd : decode s.cmd = .command i) (h : rangeOf i = some legal) :
    s.operandChecked = (decide (q.step < 2) || legal s) := by
  cases i <;> simp_all [State.operandChecked, rangeOf]

theorem operandChecked_of_start {s : State} {q : Seq} (hq : s.seq = some q) (h : q.step < 2) :
    s.operandChecked = true := by
  cases hd : decode s.cmd with
  | illegal why => exact operandChecked_of_illegal hd
  | command i =>
    cases hi : rangeOf i with
    | none => exact operandChecked_of_unranged hd hi
    | some legal => rw [operandChecked_of_ranged hq hd hi]; simp [h]

theorem ofOperands_of_rangeOf {i : Instr} {legal : State → Bool} (h : rangeOf i = some legal) : OfOperands legal := by
  intro s t hlarg hparams
  cases i
  case setAnalogGain => cases h; rw [Bool.eq_iff_iff, legalGain_iff, legalGain_iff, hlarg]
  case setExposure => cases h; rw [Bool.eq_iff_iff, legalExposure_iff, legalExposure_iff, hlarg, hparams]
  case setTestPattern => cases h; rw [Bool.eq_iff_iff, legalPattern_iff, legalPattern_iff, hlarg]
  case setFrameInterval => cases h; rw [Bool.eq_iff_iff, intervalLegal_iff, intervalLegal_iff, hlarg]
  all_goals cases h

/-- The script of a command that caches an operand with a range checks it before. -/
theorem checked_scriptOf {i : Instr} {legal : State → Bool} (h : rangeOf i = some legal) :
    Annotated (Checked legal) State.CacheLegal 0 (scriptOf i) := by
  have hlegal := ofOperands_of_rangeOf h
  cases i
  case setAnalogGain =>
    cases h
    refine checked_controlScript hlegal (fun _ _ _ _ _ => rfl) (by decide) (by decide) (fun _ => ⟨rfl, rfl⟩)
      fun s ⟨_, hexp, htp, hfi, hp⟩ hl => ⟨?_, hexp, htp, hfi, hp⟩
    obtain ⟨hlow, hhigh⟩ := (legalGain_iff s).mp hl
    have hbyte : (s.larg.r0.setWidth 8).toNat = s.larg.r0.toNat := by
      rw [BitVec.toNat_setWidth]
      omega
    exact ⟨hbyte ▸ hlow, hbyte ▸ hhigh⟩
  case setExposure =>
    cases h
    exact checked_controlScript hlegal (fun _ _ _ _ _ => rfl) (by decide) (by decide) (fun _ => ⟨rfl, rfl⟩)
      fun s ⟨hg, _, htp, hfi, hp⟩ hl => ⟨hg, (legalExposure_iff s).mp hl, htp, hfi, hp⟩
  case setTestPattern =>
    cases h
    exact checked_controlScript hlegal (fun _ _ _ _ _ => rfl) (by decide) (by decide) (fun _ => ⟨rfl, rfl⟩)
      fun s ⟨hg, hexp, _, hfi, hp⟩ hl => ⟨hg, hexp, (legalPattern_iff s).mp hl, hfi, hp⟩
  case setFrameInterval =>
    cases h
    have hend : Shape .powerUp (resultsOf .powerUp) (completeWith fun s => s.resPair 1 s.a1) :=
      .completeWith (fun _ _ _ _ => rfl) (fun s => { toFrame := { } }) (by decide)
    refine ⟨checked_prologue (by decide), checked_range, checked_cache hlegal (fun _ => ⟨rfl, rfl⟩)
      (fun s ⟨hg, hexp, htp, _, hp⟩ hl => ⟨hg, hexp, htp, ?_, hp⟩) (by decide),
      checked_of_shape hlegal hend (by decide) (by decide), trivial⟩
    obtain ⟨-, hlow, hhigh⟩ := (intervalLegal_iff s).mp hl
    have hbyte : (s.larg.r1.setWidth 8).toNat = s.larg.r1.toNat := by
      rw [BitVec.toNat_setWidth]
      omega
    exact ⟨hbyte ▸ hlow, hbyte ▸ hhigh⟩
  all_goals cases h

theorem cacheInv_runAction {s : State} {i : Instr} (hr : s.running = true) (hd : decode s.cmd = .command i)
    (h : s.CacheInv) : (runAction (scriptOf i) s).CacheInv := by
  obtain ⟨hcache, hchecked⟩ := h
  obtain ⟨q, hq⟩ := Option.isSome_iff_exists.mp hr
  cases hi : rangeOf i with
  | none =>
    have hreads := mem_cacheReaders_of_rangeOf hi
    have hframe : Frame i s (runAction (scriptOf i) s) :=
      runAction_keeps (P := Frame i s) (fun t n ht => ht.trans { }) (fun a ha t ht => by
        have hstep := (scriptOf_shapes_prologue i a ha).proceeds t
        cases hg : a t with
        | go n u => rw [hg] at hstep; exact ht.trans hstep.toFrame
        | halt u => rw [hg] at hstep; exact ht.trans (hstep.elim (·.toFrame) (·.toFrame))) { }
    exact ⟨hframe.cacheLegal hreads hcache, operandChecked_of_unranged (by rw [hframe.cmd, hd]) hi⟩
  | some legal =>
    rw [operandChecked_of_ranged hq hd hi] at hchecked
    have hann : Checked legal q.step s := ⟨hcache, by simpa using hchecked⟩
    have hadv (k : Nat) (u : State) (n : Nat) (hu : Checked legal k u) : Checked legal k (u.advance n) :=
      ⟨hu.1, hu.2.imp_right (ofOperands_of_rangeOf hi u (u.advance n) rfl rfl).trans⟩
    rcases runAction_annotated (checked_scriptOf hi) hadv hq hann with
      ⟨q', hq', hcmd, hcache', hchecked'⟩ | ⟨hnone, hcache'⟩
    · exact ⟨hcache', by rw [operandChecked_of_ranged hq' (by rw [hcmd, hd]) hi]; simpa using hchecked'⟩
    · exact ⟨hcache', operandChecked_of_idle hnone⟩

theorem cacheInv_hostAccess {s : State} (a : Access) (h : s.CacheInv) : (s.hostAccess a).CacheInv := by
  cases a with
  | read offset => exact h
  | write offset v =>
    simp only [State.hostAccess]
    rcases hostWrite_cases s offset v with ⟨-, -, hw⟩ | ⟨-, q, hw⟩ | hw <;> rw [hw]
    · exact ⟨h.1, operandChecked_of_start (s := s.accept v) rfl Nat.zero_lt_two⟩
    · exact h
    · exact h

/-- Settles O51: a command caches an operand with a range only behind its check (`checked_scriptOf`), and an accepted
one starts before it. -/
theorem cacheInvariantKept : Obligations.CacheInvariantKept := by
  intro s t h hs
  refine step_keeps State.CacheInv ?inputs ?access ?assert ?release ?illegal ?action h hs
  case inputs => exact fun s l h => h
  case access => exact fun s a h => cacheInv_hostAccess a h
  case assert => exact fun s ok ⟨⟨_, _, _, _, hp⟩, _⟩ => cacheInv_afterReset (p := s.params) ok hp
  case release => exact fun s h => h
  case illegal => exact fun s why _ _ ⟨hcache, _⟩ => ⟨hcache, operandChecked_of_idle rfl⟩
  case action => exact fun s i hr hd h => cacheInv_runAction hr hd h

end Sys2Proof.Machine

/-! PROOFS. Commands from their start whose results need no more than one transaction: SET_AUTO_EXPOSURE (R204),
POWER_DOWN (R144), GET_FRAME_INTERVAL (R255), STREAM_OFF (R233), the refusals of STREAM_ON (R232), and POWER_UP and OPEN
outside the power-on branch (R143, R250). -/

namespace Sys2Proof.Machine

/-! ### SET_AUTO_EXPOSURE -/

theorem setAutoExposure_control : ControlCommand .setAutoExposure legalSwitch regAecAgcEnable
    (fun s => withAec s.shadowAa (exposureMode s.a0)) (fun s => { s with ctlAe := exposureMode s.a0 }) :=
  ⟨rfl, fun _ _ => rfl, fun _ _ => rfl, fun _ _ => rfl⟩

theorem withAec_exposureMode (shadow a : Word) :
    withAec shadow (exposureMode a) = (shadow &&& 0xFFFE) ||| (if a = 0 then 1 else 0) := by
  by_cases h : a = 0
  · simp only [exposureMode, if_pos h]
    rfl
  · simp only [exposureMode, if_neg h]
    rfl

/-- Settles O19: the cases of a control command, with bit 0 of the written word the inverse of the operand. -/
theorem setAutoExposure : Obligations.SetAutoExposure := by
  refine ⟨by decide, fun s hs => ?_⟩
  intro v mode
  have hv : withAec s.shadowAa (exposureMode s.a0) = v := withAec_exposureMode s.shadowAa s.larg.r0
  refine ⟨fun h => ?_, fun h hcold => ?_, fun d rest h hcount hin => ?_, fun rest h hcount hin => ?_⟩
  · exact setAutoExposure_control.exec_of_illegal hs (mt (legalSwitch_iff s).mp (Nat.not_le.mpr h))
  · exact setAutoExposure_control.exec_of_cold hs ((legalSwitch_iff s).mpr h) hcold
  · exact setAutoExposure_control.exec_of_acked hs ((legalSwitch_iff s).mpr h) hcount hin hv
  · exact setAutoExposure_control.exec_of_failed hs ((legalSwitch_iff s).mpr h) hcount hin hv

/-! ### POWER_DOWN and GET_FRAME_INTERVAL -/

/-- Settles O29: POWER_DOWN has the release pseudocode, whose three branches are the three counts. -/
theorem powerDownReleases : Obligations.PowerDownReleases :=
  ⟨by decide, fun _ hs =>
    ⟨exec_release_of_unpowered rfl hs, exec_release_of_last rfl hs, exec_release_of_shared rfl hs⟩⟩

/-- Settles O48: behind the prologue the command reports FI_DEN and completes. -/
theorem getFrameInterval : Obligations.GetFrameInterval := by
  refine ⟨by decide, fun s hs => ?_⟩
  rw [exec_of_starts rfl hs, runActions_completeWith]
  rfl

/-! ### Any write, answered at once -/

section
variable {s : State} (as : List Action)

theorem runActions_completeIf_of_true {c : State → Bool} (h : c s = true) :
    runActions (completeIf c :: as) 0 s = s.complete .ok :=
  runActions_of_halt as (completeIf_of_true h)

theorem runActions_completeIf_of_false {c : State → Bool} (h : c s = false) :
    runActions (completeIf c :: as) 0 s = runActions as 0 (s.advance 1) :=
  runActions_of_go as (completeIf_of_false h)

variable (r : State → Byte) (v : State → Word) (f : State → State) {rest : List Input}

theorem memWriteThen_of_ack {d : Word} (hbus : s.bus = none) (hin : s.inputs = .reply (.ack d) :: rest) :
    memWriteThen r v f s =
      .go 0 (f ((s.exchanged (writeTo s (r s) (v s)) (.ack d) rest).shadowed (writeTo s (r s) (v s)))) := by
  rw [← answered_issue_of_idle _ _ _ hbus]
  exact transact_of_ack (fun u => writeTo u (r u) (v u)) _ hin

theorem memWriteThen_of_error (hbus : s.bus = none) (hin : s.inputs = .reply .error :: rest) :
    memWriteThen r v f s = .halt
      ({ s.exchanged (writeTo s (r s) (v s)) .error rest with errInfo := (r s).setWidth 16 }.raise .busError) := by
  rw [← raiseBusError_writeTo _ s (r s) (v s), ← answered_issue_of_idle _ _ _ hbus]
  exact transact_of_error (fun u => writeTo u (r u) (v u)) _ hin

end

/-! ### STREAM_OFF -/

theorem advance_advance (s : State) (m n : Nat) : (s.advance m).advance n = s.advance (m + n) := by
  simp [State.advance, Option.map_map, Function.comp_def, Nat.add_assoc]

/-- STREAM_OFF's write of SHADOW_CC with the output bits cleared (R233). -/
def outputCleared : Action :=
  memWriteThen (fun _ => regChipControl) (fun s => s.shadowCc &&& ~~~streamBits) (fun s => { s with stream := false })

theorem scriptOf_streamOff : scriptOf .streamOff =
    prologue :: completeIf (fun s => !s.stream) :: raiseIf (fun s => !s.powered) .precondition ::
      [outputCleared, completeOk] := rfl

section
variable {s : State}

theorem exec_streamOff_of_idle (hs : s.Starts) (hidle : s.stream = false) :
    exec .streamOff s = .next (s.complete .ok) := by
  have hcheck : (!(s.advance 1).stream) = true := by simpa using hidle
  rw [exec_of_starts scriptOf_streamOff hs, runActions_completeIf_of_true _ hcheck, complete_advance]

theorem exec_streamOff_of_streaming (hs : s.Starts) (hstream : s.stream = true) :
    exec .streamOff s =
      .next (runActions (raiseIf (fun s => !s.powered) .precondition :: [outputCleared, completeOk]) 0
        (s.advance 2)) := by
  have hcheck : (!(s.advance 1).stream) = false := by simpa using hstream
  rw [exec_of_starts scriptOf_streamOff hs, runActions_completeIf_of_false _ hcheck, advance_advance]

theorem exec_streamOff_of_unpowered (hs : s.Starts) (hstream : s.stream = true) (hcount : s.powerCount = 0) :
    exec .streamOff s = .next (s.raise .precondition) := by
  have hpow : (!(s.advance 2).powered) = true := by
    simpa using (powered_eq_false_iff (s.advance 2)).mpr hcount
  rw [exec_streamOff_of_streaming hs hstream, runActions_raiseIf_of_true _ _ hpow, raise_advance]

/-- STREAM_OFF on a streaming and powered controller comes to its write. -/
theorem exec_streamOff_of_powered (hs : s.Starts) (hstream : s.stream = true) (hcount : s.powerCount ≠ 0) :
    exec .streamOff s = .next (runActions [outputCleared, completeOk] 0 (s.advance 3)) := by
  have hpow : (!(s.advance 2).powered) = false := by
    simpa using (powered_eq_true_iff (s.advance 2)).mpr hcount
  rw [exec_streamOff_of_streaming hs hstream, runActions_raiseIf_of_false _ _ hpow, advance_advance]

end

/-- Settles O44: STREAM_OFF's four branches; the mask 0xFE77 is the complement of bits 3, 7 and 8. -/
theorem streamOffClearsOutput : Obligations.StreamOffClearsOutput := by
  refine ⟨by decide, fun s hs => ?_⟩
  intro v
  have hv : (s.advance 3).shadowCc &&& ~~~streamBits = v := rfl
  obtain ⟨⟨-, hbus⟩, -⟩ := id hs
  refine ⟨exec_streamOff_of_idle hs, exec_streamOff_of_unpowered hs, fun d rest hstream hcount hin => ?_,
    fun rest hstream hcount hin => ?_⟩
  · have hwrite : outputCleared (s.advance 3) = _ := memWriteThen_of_ack _ _ _ hbus hin
    rw [hv] at hwrite
    rw [exec_streamOff_of_powered hs hstream hcount, runActions_of_go _ hwrite, runActions_completeOk]
    rfl
  · have hwrite : outputCleared (s.advance 3) = _ := memWriteThen_of_error _ _ _ hbus hin
    rw [hv] at hwrite
    rw [exec_streamOff_of_powered hs hstream hcount, runActions_of_halt _ hwrite]
    rfl

/-! ### STREAM_ON up to its writes -/

/-- STREAM_ON's write of SHADOW_CC with the output bits set (R232). -/
def outputSet : Action :=
  memWriteThen (fun _ => regChipControl) (fun s => s.shadowCc ||| streamBits) (fun s => { s with stream := true })

theorem scriptOf_streamOn : scriptOf .streamOn =
    prologue :: raiseIf (fun s => !s.powered) .precondition :: completeIf (fun s => s.stream) ::
      raiseIf State.binningRejected .precondition :: (windowWrites ++ [outputSet]) ++ [completeOk] := rfl

section
variable {s : State}

theorem exec_streamOn_of_unpowered (hs : s.Starts) (hcount : s.powerCount = 0) :
    exec .streamOn s = .next (s.raise .precondition) := by
  refine exec_of_rejected scriptOf_streamOn hs ?_
  simpa using (powered_eq_false_iff (s.advance 1)).mpr hcount

theorem exec_streamOn_of_powered (hs : s.Starts) (hcount : s.powerCount ≠ 0) :
    exec .streamOn s = .next (runActions (completeIf (fun s => s.stream) ::
      raiseIf State.binningRejected .precondition :: (windowWrites ++ [outputSet]) ++ [completeOk]) 0
        (s.advance 2)) := by
  have hpow : (!(s.advance 1).powered) = false := by
    simpa using (powered_eq_true_iff (s.advance 1)).mpr hcount
  rw [exec_of_admitted scriptOf_streamOn hs hpow, advance_advance]
  rfl

theorem exec_streamOn_of_streaming (hs : s.Starts) (hcount : s.powerCount ≠ 0) (hstream : s.stream = true) :
    exec .streamOn s = .next (s.complete .ok) := by
  have hcheck : (s.advance 2).stream = true := hstream
  rw [exec_streamOn_of_powered hs hcount, List.cons_append, runActions_completeIf_of_true _ hcheck, complete_advance]

theorem exec_streamOn_of_idle (hs : s.Starts) (hcount : s.powerCount ≠ 0) (hidle : s.stream = false) :
    exec .streamOn s = .next (runActions
      (raiseIf State.binningRejected .precondition :: (windowWrites ++ [outputSet]) ++ [completeOk]) 0
        (s.advance 3)) := by
  have hcheck : (s.advance 2).stream = false := hidle
  rw [exec_streamOn_of_powered hs hcount, List.cons_append, runActions_completeIf_of_false _ hcheck, advance_advance]

theorem exec_streamOn_of_rejected (hs : s.Starts) (hcount : s.powerCount ≠ 0) (hidle : s.stream = false)
    (hrejected : s.binningRejected = true) : exec .streamOn s = .next (s.raise .precondition) := by
  have hcheck : (s.advance 3).binningRejected = true := hrejected
  rw [exec_streamOn_of_idle hs hcount hidle, List.cons_append, runActions_raiseIf_of_true _ _ hcheck, raise_advance]

/-- Behind all its checks STREAM_ON goes to its seven writes. -/
theorem exec_streamOn_of_accepted (hs : s.Starts) (hcount : s.powerCount ≠ 0) (hidle : s.stream = false)
    (haccepted : s.binningRejected = false) :
    exec .streamOn s = .next (runActions ((windowWrites ++ [outputSet]) ++ [completeOk]) 0 (s.advance 4)) := by
  have hcheck : (s.advance 3).binningRejected = false := haccepted
  rw [exec_streamOn_of_idle hs hcount hidle, List.cons_append, runActions_raiseIf_of_false _ _ hcheck, advance_advance]

theorem binningRejected_iff (s : State) :
    s.binningRejected = true ↔ (4 < s.hratio ∨ 4 < s.vratio) ∧ s.params.binPolicy = .reject := by
  rw [State.binningRejected, Bool.and_eq_true_iff, decide_eq_true_iff, beq_iff_eq]
  rfl

end

/-- Settles O42: STREAM_ON's three endings before its writes. -/
theorem streamOnRefusesOrRepeats : Obligations.StreamOnRefusesOrRepeats := fun _ hs =>
  ⟨exec_streamOn_of_unpowered hs, exec_streamOn_of_streaming hs, fun hcount hidle hpolicy hratio =>
    exec_streamOn_of_rejected hs hcount hidle ((binningRejected_iff _).mpr ⟨hratio, hpolicy⟩)⟩

/-! ### POWER_UP and OPEN up to the power-on branch -/

/-- The count goes up by one and the command ends (R143, R250). -/
def countedUp : List Action := [update (fun s => s.withCount (s.powerCount + 1)), completeOk]

theorem scriptOf_powerUp : scriptOf .powerUp =
    prologue :: skipIf State.powered coldBranch.length :: (coldBranch ++
      raiseIf (fun s => s.powerCount == pwrCntMax) .precondition :: countedUp) := rfl

theorem scriptOf_openSession : scriptOf .openSession =
    prologue :: raiseIf (fun s => s.powerCount == pwrCntMax) .precondition :: update State.freshTry ::
      skipIf State.powered coldBranch.length :: (coldBranch ++ countedUp) := rfl

section
variable {s : State}

theorem runActions_countedUp (n : Nat) :
    runActions countedUp 0 (s.advance n) = (s.withCount (s.powerCount + 1)).complete .ok := by
  rw [countedUp, runActions_update, runActions_completeOk, complete_advance, State.advance_powerCount,
    withCount_advance, complete_advance]

/-- A positive count passes the power-on branch over. -/
theorem runActions_skipCold (tail : List Action) (h : s.powerCount ≠ 0) :
    runActions (skipIf State.powered coldBranch.length :: (coldBranch ++ tail)) 0 s =
      runActions tail 0 (s.advance (coldBranch.length + 1)) := by
  rw [runActions_skipIf_of_true _ _ ((powered_eq_true_iff s).mpr h), ← Nat.add_zero coldBranch.length,
    runActions_append_skip, Nat.add_zero]

/-- Count 0 enters it. -/
theorem runActions_enterCold (tail : List Action) (h : s.powerCount = 0) :
    runActions (skipIf State.powered coldBranch.length :: (coldBranch ++ tail)) 0 s =
      runActions (coldBranch ++ tail) 0 (s.advance 1) :=
  runActions_skipIf_of_false _ _ ((powered_eq_false_iff s).mpr h)

/-- The power-on branch refuses a chip that was found absent. -/
theorem runActions_coldBranch_of_absent (tail : List Action) (h : s.absent = true) :
    runActions (coldBranch ++ tail) 0 s = s.raise .notPresent :=
  runActions_raiseIf_of_true _ _ h

theorem exec_powerUp_of_powered (hs : s.Starts) (hcount : s.powerCount ≠ 0) :
    ∃ n, exec .powerUp s = .next (runActions (raiseIf (fun s => s.powerCount == pwrCntMax) .precondition :: countedUp) 0
      (s.advance n)) := by
  have hpow : (s.advance 1).powerCount ≠ 0 := hcount
  refine ⟨1 + (coldBranch.length + 1), ?_⟩
  rw [exec_of_starts scriptOf_powerUp hs, runActions_skipCold _ hpow, advance_advance]

theorem exec_openSession_of_maximal (hs : s.Starts) (hcount : s.powerCount = 65535) :
    exec .openSession s = .next (s.raise .precondition) :=
  exec_of_rejected scriptOf_openSession hs (beq_iff_eq.mpr hcount)

theorem exec_openSession_of_below (hs : s.Starts) (hcount : s.powerCount ≠ 65535) :
    exec .openSession s = .next (runActions (skipIf State.powered coldBranch.length :: (coldBranch ++ countedUp)) 0
      (s.freshTry.advance 3)) := by
  have hcheck : ((s.advance 1).powerCount == pwrCntMax) = false := beq_eq_false_iff_ne.mpr hcount
  rw [exec_of_admitted scriptOf_openSession hs hcheck, runActions_update, advance_advance]
  rw [show (s.advance (1 + 1)).freshTry = s.freshTry.advance 2 from rfl, advance_advance]

end

/-- What the two commands have done when they come to the power-on branch: OPEN has reset the try-state. -/
def State.tried (s : State) (i : Instr) : State := if i = .openSession then s.freshTry else s

/-- From count 0 both commands go to the power-on branch. -/
theorem exec_of_cold {s : State} {i : Instr} (hi : i = .powerUp ∨ i = .openSession) (hs : s.Starts)
    (hcount : s.powerCount = 0) :
    ∃ tail n, exec i s = .next (runActions (coldBranch ++ tail) 0 ((s.tried i).advance n)) := by
  rcases hi with rfl | rfl
  · have hcold : (s.advance 1).powerCount = 0 := hcount
    refine ⟨raiseIf (fun s => s.powerCount == pwrCntMax) .precondition :: countedUp, 2, ?_⟩
    rw [exec_of_starts scriptOf_powerUp hs, runActions_enterCold _ hcold, advance_advance]
    rfl
  · have hcold : (s.freshTry.advance 3).powerCount = 0 := hcount
    refine ⟨countedUp, 4, ?_⟩
    rw [exec_openSession_of_below hs (by simp [hcount]), runActions_enterCold _ hcold, advance_advance]
    rfl

theorem exec_of_absent {s : State} {i : Instr} (hi : i = .powerUp ∨ i = .openSession) (hs : s.Starts)
    (hcount : s.powerCount = 0) (habsent : s.absent = true) : exec i s = .next ((s.tried i).raise .notPresent) := by
  obtain ⟨tail, n, hexec⟩ := exec_of_cold hi hs hcount
  have hrefused : ((s.tried i).advance n).absent = true := by rcases hi with rfl | rfl <;> exact habsent
  rw [hexec, runActions_coldBranch_of_absent tail hrefused, raise_advance]

/-- Settles O24: the power-on branch is passed over at a positive count, and refuses at once with ABSENT set. -/
theorem powerUpCountsOrRefuses : Obligations.PowerUpCountsOrRefuses := by
  refine fun s hs => ⟨fun hcount hbelow => ?_, fun hmax => ?_, fun hcount habsent => ?_⟩
  · obtain ⟨n, hexec⟩ := exec_powerUp_of_powered hs hcount
    have hcheck : ((s.advance n).powerCount == pwrCntMax) = false := beq_eq_false_iff_ne.mpr hbelow
    rw [hexec, runActions_raiseIf_of_false _ _ hcheck, advance_advance, runActions_countedUp]
    rfl
  · obtain ⟨n, hexec⟩ := exec_powerUp_of_powered hs (by simp [hmax])
    have hcheck : ((s.advance n).powerCount == pwrCntMax) = true := beq_iff_eq.mpr hmax
    rw [hexec, runActions_raiseIf_of_true _ _ hcheck]
    rfl
  · exact exec_of_absent (.inl rfl) hs hcount habsent

/-- Settles O28: as POWER_UP, but the maximum is checked before the try-state is reset. -/
theorem openCountsOrRefuses : Obligations.OpenCountsOrRefuses := by
  refine fun s hs => ⟨fun hcount hbelow => ?_, exec_openSession_of_maximal hs, fun hcount habsent => ?_⟩
  · have hpow : (s.freshTry.advance 3).powerCount ≠ 0 := hcount
    rw [exec_openSession_of_below hs hbelow, runActions_skipCold _ hpow, advance_advance, runActions_countedUp]
    rfl
  · exact exec_of_absent (.inr rfl) hs hcount habsent

end Sys2Proof.Machine

/-! PROOFS. Runs of writes, said once: a part of a script that makes given writes makes them all on a bus that
acknowledges, and ends at the first one that fails (R85, R87, R90). From it STREAM_ON's trace (R232, R235). -/

namespace Sys2Proof.Machine

/-! ### What an acknowledged write leaves -/

/-- `s` with other inputs to come and another record. -/
def State.traced (s : State) (l : List Input) (es : List Event) : State := { s with inputs := l, log := es }

/-- What the acknowledge of write `w` leaves in a command whose CHIP_CONTROL write sets STREAM to `on`: the shadow of
its register (R92), and STREAM (R141, R232). -/
def State.took (on : Bool) (s : State) (w : Byte × Word) : State :=
  if w.1 = regChipControl then { s with shadowCc := w.2, stream := on }
  else if w.1 = regAecAgcEnable then { s with shadowAa := w.2 }
  else s

/-- A failed write to register `r` ends the command (R48, R87). -/
def State.writeFailed (s : State) (r : Byte) : State := { s with errInfo := r.setWidth 16 }.raise .busError

section
variable (on : Bool) (s : State)

theorem took_of_unshadowed {r : Byte} (v : Word) (hcc : r ≠ regChipControl) (haa : r ≠ regAecAgcEnable) :
    s.took on (r, v) = s := by
  simp [State.took, hcc, haa]

theorem took_params (w : Byte × Word) : (s.took on w).params = s.params := by
  simp only [State.took]
  split
  · rfl
  · split <;> rfl

theorem writeTo_of_params {s t : State} (h : t.params = s.params) (r : Byte) (v : Word) :
    writeTo t r v = writeTo s r v := by
  simp [writeTo, h]

theorem writesAcked_of_params {s t : State} (h : t.params = s.params) (ws : List (Byte × Word)) (ds : List Word) :
    writesAcked t ws ds = writesAcked s ws ds := by
  simp [writesAcked, writeTo_of_params h]

theorem writesAcked_cons (w : Byte × Word) (ws : List (Byte × Word)) (d : Word) (ds : List Word) :
    writesAcked s (w :: ws) (d :: ds) =
      [Event.bus (writeTo s w.1 w.2), Event.answer (.ack d)] ++ writesAcked s ws ds := rfl

end

/-! ### Actions that write -/

/-- Action `a` makes write `w` of state `x`, wherever SEQ stands: the two ways its answer can come. -/
structure WritesIn (on : Bool) (x : State) (a : Action) (w : Byte × Word) : Prop where
  acked : ∀ n es d rest, a ((x.traced (.reply (.ack d) :: rest) es).advance n) =
    .go 0 (((x.took on w).traced rest (es ++ [.bus (writeTo x w.1 w.2), .answer (.ack d)])).advance n)
  failed : ∀ n es rest, a ((x.traced (.reply .error :: rest) es).advance n) =
    .halt ((x.traced rest (es ++ [.bus (writeTo x w.1 w.2), .answer .error])).writeFailed w.1)

/-- The actions `as`, from state `x` on, make exactly the writes `ws`; an action between them may do nothing. -/
inductive Makes (on : Bool) : State → List Action → List (Byte × Word) → Prop
  | nil (x : State) : Makes on x [] []
  | write {x : State} {a : Action} {w : Byte × Word} {as : List Action} {ws : List (Byte × Word)}
      (ha : WritesIn on x a w) (h : Makes on (x.took on w) as ws) : Makes on x (a :: as) (w :: ws)
  | skip {x : State} {a : Action} {as : List Action} {ws : List (Byte × Word)}
      (ha : ∀ n l es, a ((x.traced l es).advance n) = .go 0 ((x.traced l es).advance n)) (h : Makes on x as ws) :
      Makes on x (a :: as) ws

namespace Makes

variable {on : Bool} {x : State} {as : List Action} {ws : List (Byte × Word)}

/-- On a bus that acknowledges, all of the writes are made and the script goes on behind them. -/
theorem run (h : Makes on x as ws) (tail : List Action) (rest : List Input) :
    ∀ (n : Nat) (es : List Event) (ds : List Word), ds.length = ws.length →
      ∃ m, runActions (as ++ tail) 0 ((x.traced (acks ds ++ rest) es).advance n) =
        runActions tail 0 (((ws.foldl (State.took on) x).traced rest (es ++ writesAcked x ws ds)).advance m) := by
  induction h with
  | nil x =>
    intro n es ds hds
    obtain rfl := List.length_eq_zero_iff.mp hds
    exact ⟨n, by simp [acks, writesAcked]⟩
  | @write x a w as ws ha _ ih =>
    intro n es ds hds
    obtain _ | ⟨d, ds⟩ := ds
    · simp at hds
    obtain ⟨m, hm⟩ := ih (n + 1) (es ++ [Event.bus (writeTo x w.1 w.2), Event.answer (.ack d)]) ds (by simpa using hds)
    refine ⟨m, ?_⟩
    rw [List.cons_append, acks, List.map_cons, List.cons_append, runActions_of_go _ (ha.acked n es d _),
      advance_advance]
    rw [writesAcked_of_params (took_params on x w), List.append_assoc, ← writesAcked_cons] at hm
    exact hm
  | @skip x a as ws ha _ ih =>
    intro n es ds hds
    obtain ⟨m, hm⟩ := ih (n + 1) es ds hds
    refine ⟨m, ?_⟩
    rw [List.cons_append, runActions_of_go _ (ha n _ es), advance_advance]
    exact hm

/-- When the writes before one are acknowledged and that one fails, the command ends there. -/
theorem fail (h : Makes on x as ws) (tail : List Action) (rest : List Input) {w : Byte × Word}
    {later : List (Byte × Word)} :
    ∀ (n : Nat) (es : List Event) (done : List (Byte × Word)) (ds : List Word), ws = done ++ w :: later →
      ds.length = done.length →
      runActions (as ++ tail) 0 ((x.traced (acks ds ++ .reply .error :: rest) es).advance n) =
        ((done.foldl (State.took on) x).traced rest
          (es ++ writesAcked x done ds ++ [.bus (writeTo x w.1 w.2), .answer .error])).writeFailed w.1 := by
  induction h with
  | nil x =>
    intro n es done ds hws
    simp at hws
  | @write x a w' as ws ha _ ih =>
    intro n es done ds hws hds
    obtain _ | ⟨v, done⟩ := done
    · obtain ⟨rfl, rfl⟩ := List.cons.inj hws
      obtain rfl := List.length_eq_zero_iff.mp hds
      rw [List.cons_append, acks, List.map_nil, List.nil_append, runActions_of_halt _ (ha.failed n es rest)]
      simp [writesAcked]
    · obtain ⟨rfl, hlater⟩ := List.cons.inj hws
      obtain _ | ⟨d, ds⟩ := ds
      · simp at hds
      have hm := ih (n + 1) (es ++ [Event.bus (writeTo x w'.1 w'.2), Event.answer (.ack d)]) done ds hlater
        (by simpa using hds)
      rw [writesAcked_of_params (took_params on x w'), writeTo_of_params (took_params on x w'), List.append_assoc es,
        ← writesAcked_cons] at hm
      rw [List.cons_append, acks, List.map_cons, List.cons_append, runActions_of_go _ (ha.acked n es d _),
        advance_advance]
      exact hm
  | @skip x a as ws ha _ ih =>
    intro n es done ds hws hds
    rw [List.cons_append, runActions_of_go _ (ha n _ es), advance_advance]
    exact ih (n + 1) es done ds hws hds

end Makes

/-! ### The writing actions of the scripts -/

section
variable {on : Bool} {x : State} {r : State → Byte} {v : State → Word} {f : State → State} {reg : Byte} {value : Word}

theorem writesIn_memWriteThen (hbus : x.bus = none) (hr : ∀ n l es, r ((x.traced l es).advance n) = reg)
    (hv : ∀ n l es, v ((x.traced l es).advance n) = value)
    (hf : ∀ n l es, f (((x.traced l es).shadowed (writeTo x reg value)).advance n) =
      ((x.took on (reg, value)).traced l es).advance n) : WritesIn on x (memWriteThen r v f) (reg, value) where
  acked n es d rest := by
    have hwrite := memWriteThen_of_ack r v f (s := (x.traced (.reply (.ack d) :: rest) es).advance n) hbus rfl
    rw [hr, hv, writeTo_advance, exchanged_advance, shadowed_advance] at hwrite
    exact hwrite.trans (congrArg _ (hf n rest _))
  failed n es rest := by
    have hwrite := memWriteThen_of_error r v f (s := (x.traced (.reply .error :: rest) es).advance n) hbus rfl
    rw [hr, hv, writeTo_advance, exchanged_advance] at hwrite
    exact hwrite

variable {as : List Action} {ws : List (Byte × Word)}

/-- A write to a register without a shadow. -/
theorem makes_unshadowed (hbus : x.bus = none) (hcc : reg ≠ regChipControl) (haa : reg ≠ regAecAgcEnable)
    (hr : ∀ n l es, r ((x.traced l es).advance n) = reg) (hv : ∀ n l es, v ((x.traced l es).advance n) = value)
    (h : Makes on x as ws) : Makes on x (memWriteThen r v (fun s => s) :: as) ((reg, value) :: ws) := by
  have htook := took_of_unshadowed on x value hcc haa
  refine .write (writesIn_memWriteThen hbus hr hv fun n l es => ?_) (htook.symm ▸ h)
  rw [shadowed_other _ _ hcc haa, htook]

theorem makes_aecAgcEnable (hbus : x.bus = none) (hv : ∀ n l es, v ((x.traced l es).advance n) = value)
    (h : Makes on { x with shadowAa := value } as ws) :
    Makes on x (memWrite regAecAgcEnable v :: as) ((0xAF, value) :: ws) :=
  .write (writesIn_memWriteThen hbus (fun _ _ _ => rfl) hv fun _ _ _ => rfl) h

theorem makes_chipControl (hbus : x.bus = none) (hv : ∀ n l es, v ((x.traced l es).advance n) = value)
    (h : Makes on { x with shadowCc := value, stream := on } as ws) :
    Makes on x (memWriteThen (fun _ => regChipControl) v (fun s => { s with stream := on }) :: as)
      ((0x07, value) :: ws) :=
  .write (writesIn_memWriteThen hbus (fun _ _ _ => rfl) hv fun _ _ _ => rfl) h

end

/-! ### STREAM_ON -/

theorem makes_streamOn {s : State} (hbus : s.bus = none) :
    Makes true s (windowWrites ++ [outputSet]) (streamOnWrites s) := by
  refine makes_unshadowed hbus (by decide) (by decide) (fun _ _ _ => rfl) (fun _ _ _ => rfl) ?_
  refine makes_unshadowed hbus (by decide) (by decide) (fun _ _ _ => rfl) (fun _ _ _ => rfl) ?_
  refine makes_unshadowed hbus (by decide) (by decide) (fun _ _ _ => rfl) (fun _ _ _ => rfl) ?_
  refine makes_unshadowed hbus (by decide) (by decide) (fun _ _ _ => rfl) (fun _ _ _ => rfl) ?_
  refine makes_unshadowed hbus (by decide) (by decide) (fun _ _ _ => rfl) (fun _ _ _ => rfl) ?_
  refine makes_unshadowed hbus (by decide) (by decide) (fun _ _ _ => rfl) (fun _ _ _ => rfl) ?_
  exact makes_chipControl hbus (fun _ _ _ => rfl) (.nil _)

theorem traced_self {s : State} {l : List Input} (h : s.inputs = l) : s.traced l s.log = s := by
  rw [← h]
  rfl

/-- Settles O41: the seven writes of `makes_streamOn`, of which only CHIP_CONTROL's leaves something. -/
theorem streamOnProgramsWindow : Obligations.StreamOnProgramsWindow := by
  intro s ds rest hs hcount hidle hr vr floor ws hratio hlen hin
  have hbus : s.bus = none := hs.1.2
  have haccepted : s.binningRejected = false := by
    rw [Bool.eq_false_iff, Ne, binningRejected_iff]
    rintro ⟨hover, hpolicy⟩
    rcases hratio with ⟨hh, hv⟩ | hmask
    · exact hover.elim (Int.not_lt.mpr hh) (Int.not_lt.mpr hv)
    · simp [hmask] at hpolicy
  have hfloor : floor = hblankMin s.params.variant := by cases h : s.params.variant <;> simp [floor, h, hblankMin]
  have hws : streamOnWrites s = ws := by
    simp only [ws, hfloor]
    rfl
  obtain ⟨m, hrun⟩ := (makes_streamOn hbus).run [completeOk] rest 4 s.log ds hlen
  rw [traced_self hin, hws] at hrun
  rw [exec_streamOn_of_accepted hs hcount hidle haccepted, hrun, runActions_completeOk]
  rfl

/-- Writes to registers without a shadow leave nothing. -/
theorem foldl_took_of_unshadowed (on : Bool) (s : State) {ws : List (Byte × Word)}
    (h : ∀ w ∈ ws, w.1 ≠ regChipControl ∧ w.1 ≠ regAecAgcEnable) : ws.foldl (State.took on) s = s := by
  induction ws with
  | nil => rfl
  | cons w ws ih =>
    obtain ⟨⟨hcc, haa⟩, hws⟩ := List.forall_mem_cons.mp h
    rw [List.foldl_cons, took_of_unshadowed on s w.2 hcc haa, ih hws]

theorem unshadowed_of_mem_dropLast_streamOnWrites (s : State) :
    ∀ w ∈ (streamOnWrites s).dropLast, w.1 ≠ regChipControl ∧ w.1 ≠ regAecAgcEnable := by
  simp [streamOnWrites, regChipControl, regAecAgcEnable]

/-- Settles O43: before any of the seven writes only window registers have been written, which have no shadow. -/
theorem streamOnBusErrorStaysIdle : Obligations.StreamOnBusErrorStaysIdle := by
  intro s ds done r x later rest hs hcount hidle haccepted hws hlen hin
  have hbus : s.bus = none := hs.1.2
  have hdone : ∀ w ∈ done, w.1 ≠ regChipControl ∧ w.1 ≠ regAecAgcEnable := by
    refine fun w hw => unshadowed_of_mem_dropLast_streamOnWrites s w ?_
    rw [hws, List.dropLast_append_of_ne_nil (List.cons_ne_nil _ _)]
    exact List.mem_append_left _ hw
  have hrun := (makes_streamOn hbus).fail [completeOk] rest 4 s.log done ds hws hlen
  rw [traced_self hin, foldl_took_of_unshadowed true s hdone] at hrun
  rw [exec_streamOn_of_accepted hs hcount hidle haccepted, hrun]
  rfl

end Sys2Proof.Machine

/-! PROOFS. PHYS_ON under POWER_UP and OPEN (R141, R143, R250): its writes with REPLAY's (R208), the identification
before them, and what a part of the writes leaves behind. -/

namespace Sys2Proof.Machine

/-! ### The writes of PHYS_ON -/

/-- PHYS_ON behind an accepted identification (R141), REPLAY included (R208). -/
def physOnWriting : List Action :=
  [ memWrite regReset (fun _ => 0x0001),
    memWrite regReset (fun _ => 0x0000),
    memWriteThen (fun _ => regChipControl) (fun _ => 0x0000) (fun s => { s with stream := false }),
    onlyIf (fun s => s.params.pclkInv)
      (memWriteThen (fun s => pixelClockAddr s.params.variant) (fun s => 1#16 <<< s.params.pclkInvBit.val)
        (fun s => s)),
    memWrite regRowNoiseCorrControl (fun _ => 0x0000) ] ++ replay

theorem one_shiftLeft_eq (n : Nat) : 1#16 <<< n = BitVec.ofNat 16 (2 ^ n) := by
  apply BitVec.eq_of_toNat_eq
  simp [Nat.shiftLeft_eq]

theorem pixelClockWrite_eq (s : State) :
    pixelClockWrite s = (pixelClockAddr s.params.variant, 1#16 <<< s.params.pclkInvBit.val) := by
  rw [pixelClockWrite, one_shiftLeft_eq]
  cases s.params.variant <;> rfl

theorem replayedAa_eq (s : State) : replayedAa s = withAec (replayedAgc s) s.ctlAe := by
  cases h : s.ctlAe <;> simp only [replayedAa, withAec, h] <;> rfl

theorem makes_replay {x : State} (hbus : x.bus = none) : Makes false x replay (replayWrites x) := by
  have hagc : withAgc x.shadowAa x.ctlAg = replayedAgc x := rfl
  refine makes_aecAgcEnable hbus (fun _ _ _ => hagc) ?_
  refine makes_unshadowed hbus (by decide) (by decide) (fun _ _ _ => rfl) (fun _ _ _ => rfl) ?_
  refine makes_aecAgcEnable hbus (fun _ _ _ => (replayedAa_eq x).symm) ?_
  refine makes_unshadowed hbus (by decide) (by decide) (fun _ _ _ => rfl) (fun _ _ _ => rfl) ?_
  exact makes_unshadowed hbus (by decide) (by decide) (fun _ _ _ => rfl) (fun _ _ _ => rfl) (.nil _)

theorem makes_rowNoise {x : State} (hbus : x.bus = none) :
    Makes false x (memWrite regRowNoiseCorrControl (fun _ => 0x0000) :: replay) ((0x70, 0x0000) :: replayWrites x) :=
  makes_unshadowed hbus (by decide) (by decide) (fun _ _ _ => rfl) (fun _ _ _ => rfl) (makes_replay hbus)

/-- A guard that holds lets its action write as it would alone. -/
theorem makes_onlyIf {on : Bool} {x : State} {c : State → Bool} {a : Action} {as : List Action}
    {ws : List (Byte × Word)} (hc : ∀ n l es, c ((x.traced l es).advance n) = true) (h : Makes on x (a :: as) ws) :
    Makes on x (onlyIf c a :: as) ws := by
  have hguard (n l es) := onlyIf_of_true a (hc n l es)
  cases h with
  | write ha h =>
    exact .write ⟨fun n es d rest => (hguard n _ es).trans (ha.acked n es d rest),
      fun n es rest => (hguard n _ es).trans (ha.failed n es rest)⟩ h
  | skip ha h => exact .skip (fun n l es => (hguard n l es).trans (ha n l es)) h

/-- PIXEL_CLOCK is written only when the parameters invert it (R141). -/
theorem makes_pixelClock {x : State} (hbus : x.bus = none) : Makes false x (physOnWriting.drop 3)
    ((if x.params.pclkInv then [pixelClockWrite x] else []) ++ (0x70, 0x0000) :: replayWrites x) := by
  cases hinv : x.params.pclkInv with
  | false => exact .skip (fun n l es => onlyIf_of_false _ hinv) (makes_rowNoise hbus)
  | true =>
    obtain ⟨hcc, haa⟩ := pixelClockAddr_unshadowed x.params.variant
    refine makes_onlyIf (fun _ _ _ => hinv) ?_
    rw [if_pos rfl, pixelClockWrite_eq]
    exact makes_unshadowed hbus hcc haa (fun _ _ _ => rfl) (fun _ _ _ => rfl) (makes_rowNoise hbus)

theorem makes_physOn {x : State} (hbus : x.bus = none) : Makes false x physOnWriting (physOnWrites x) := by
  rw [physOnWrites, List.append_assoc, List.append_assoc]
  refine makes_unshadowed hbus (by decide) (by decide) (fun _ _ _ => rfl) (fun _ _ _ => rfl) ?_
  refine makes_unshadowed hbus (by decide) (by decide) (fun _ _ _ => rfl) (fun _ _ _ => rfl) ?_
  refine makes_chipControl hbus (fun _ _ _ => rfl) ?_
  exact makes_pixelClock (x := { x with shadowCc := 0, stream := false }) hbus

/-- The writes of PHYS_ON behind CHIP_CONTROL's. -/
def writesAfterChipControl (s : State) : List (Byte × Word) :=
  (if s.params.pclkInv then [pixelClockWrite s] else []) ++ (0x70, 0x0000) :: replayWrites s

theorem physOnWrites_eq (s : State) :
    physOnWrites s = (0x0C, 0x0001) :: (0x0C, 0x0000) :: (0x07, 0x0000) :: writesAfterChipControl s := by
  rw [physOnWrites, List.append_assoc, List.append_assoc]
  rfl

theorem pixelClockWrites_unshadowed (s : State) :
    ∀ w ∈ if s.params.pclkInv then [pixelClockWrite s] else [], w.1 ≠ regChipControl ∧ w.1 ≠ regAecAgcEnable := by
  rw [pixelClockWrite_eq]
  cases s.params.pclkInv with
  | false => simp
  | true => simpa using pixelClockAddr_unshadowed s.params.variant

theorem not_chipControl_of_mem_writesAfterChipControl (s : State) :
    ∀ w ∈ writesAfterChipControl s, w.1 ≠ regChipControl := by
  refine List.forall_mem_append.mpr ⟨fun w hw => (pixelClockWrites_unshadowed s w hw).1, ?_⟩
  simp [replayWrites, regChipControl]

theorem foldl_took_physOnWrites (s : State) : (physOnWrites s).foldl (State.took false) s =
    { s with shadowCc := 0, stream := false, shadowAa := replayedAa s } := by
  rw [physOnWrites_eq, writesAfterChipControl, List.foldl_cons, List.foldl_cons, List.foldl_cons, List.foldl_append,
    foldl_took_of_unshadowed _ _ (pixelClockWrites_unshadowed s)]
  rfl

/-! ### The identification -/

/-- PHYS_ON's test of the version read (R141), before the actions `tail`. -/
def versionTest (tail : List Action) : List Action :=
  skipIf (fun s => chipAccepted s.chipVer) 3 :: clockDisable :: update (fun s => { s with absent := true }) ::
    raiseIf (fun _ => true) .notPresent :: tail

/-- PHYS_ON's identification read with its test (R141), before the actions `tail`. -/
def identifying (tail : List Action) : List Action :=
  memRead regChipVersion (fun v s => { s with chipVer := v }) :: versionTest tail

/-- The end of the power-on branch (R143). -/
def countedOne : List Action := [update (fun s => s.withCount 1), completeOk]

theorem coldBranch_append (tail : List Action) : coldBranch ++ tail =
    raiseIf (fun s => s.absent) .notPresent :: clockEnable :: delay ::
      identifying (physOnWriting ++ (countedOne ++ tail)) := rfl

theorem chipAccepted_iff (v : Word) : chipAccepted v = true ↔ v ∈ [(0x1311 : Word), 0x1313, 0x1324] := by
  simp [chipAccepted, or_assoc]

section
variable {s : State} (r : Byte) (f : Word → State → State) {rest : List Input}

theorem memRead_of_ack {d : Word} (hbus : s.bus = none) (hin : s.inputs = .reply (.ack d) :: rest) :
    memRead r f s = .go 0 (f d (s.exchanged (readOf s r) (.ack d) rest)) := by
  rw [← answered_issue_of_idle _ _ _ hbus]
  exact transact_of_ack (fun u => readOf u r) f hin

/-- A failed read ends the command, bit 8 of ERRINFO marking it (R48, R87). -/
theorem memRead_of_error (hbus : s.bus = none) (hin : s.inputs = .reply .error :: rest) :
    memRead r f s = .halt
      ({ s.exchanged (readOf s r) .error rest with errInfo := 0x100 ||| r.setWidth 16 }.raise .busError) := by
  rw [← answered_issue_of_idle _ _ _ hbus]
  exact transact_of_error (fun u => readOf u r) f hin

end

/-- `s` with the clock enabled and settled. -/
def State.clocked (s : State) : State :=
  { s with clkEn := true, log := s.log ++ [.clkOn, .delay s.params.tStabNs] }

/-- `s` with the clock enabled and the identification read answered with `v`. -/
def State.identified (s : State) (v : Word) (rest : List Input) : State :=
  { s with clkEn := true, chipVer := v, inputs := rest, log := s.log ++ identification s v }

section
variable {s : State} (tail : List Action) (n : Nat) {v : Word} {rest : List Input}

theorem clocked_eq (s : State) : ({ s with clkEn := true }.emit .clkOn).emit (.delay s.params.tStabNs) = s.clocked := by
  simp [State.emit, State.clocked]

/-- With a chip not found absent, the power-on branch enables the clock and comes to the read. -/
theorem runActions_coldBranch (hpresent : s.absent = false) : runActions (coldBranch ++ tail) 0 (s.advance n) =
    runActions (identifying (physOnWriting ++ (countedOne ++ tail))) 0 (s.clocked.advance (n + 3)) := by
  have hcheck : (s.advance n).absent = false := hpresent
  rw [coldBranch_append, runActions_raiseIf_of_false _ _ hcheck, clockEnable, runActions_update, delay,
    runActions_update, ← advance_advance s.clocked n 3, ← advance_advance _ 2 1, ← advance_advance _ 1 1, ← clocked_eq]
  rfl

theorem clocked_exchanged (s : State) (t : Transaction) (r : Reply) (rest : List Input) :
    s.clocked.exchanged t r rest = { s with
      clkEn := true, inputs := rest, log := s.log ++ [.clkOn, .delay s.params.tStabNs, .bus t, .answer r] } := by
  simp [State.exchanged, State.clocked]

theorem identified_eq (s : State) (v : Word) (rest : List Input) :
    { s.clocked.exchanged (readOf s regChipVersion) (.ack v) rest with chipVer := v } = s.identified v rest := by
  rw [clocked_exchanged]
  rfl

/-- The read is answered, and its value tested in CHIPVER. -/
theorem runActions_identifying_of_ack (hbus : s.bus = none) (hin : s.inputs = .reply (.ack v) :: rest) :
    runActions (identifying tail) 0 (s.clocked.advance n) =
      runActions (versionTest tail) 0 ((s.identified v rest).advance (n + 1)) := by
  have hread := memRead_of_ack regChipVersion (fun v u => { u with chipVer := v }) (s := s.clocked.advance n) hbus hin
  rw [identifying, runActions_of_go _ hread, ← advance_advance (s.identified v rest) n 1, ← identified_eq]
  rfl

theorem runActions_identifying_of_accepted (hbus : s.bus = none) (hin : s.inputs = .reply (.ack v) :: rest)
    (hv : v ∈ [(0x1311 : Word), 0x1313, 0x1324]) : runActions (identifying tail) 0 (s.clocked.advance n) =
      runActions tail 0 ((s.identified v rest).advance (n + 5)) := by
  have hcheck : chipAccepted ((s.identified v rest).advance (n + 1)).chipVer = true := (chipAccepted_iff v).mpr hv
  rw [runActions_identifying_of_ack tail n hbus hin, versionTest,
    runActions_skipIf_of_true _ _ hcheck, advance_advance]
  rfl

/-- A refused chip gates the clock again and is remembered as absent (R141). -/
theorem runActions_identifying_of_refused (hbus : s.bus = none) (hin : s.inputs = .reply (.ack v) :: rest)
    (hv : v ∉ [(0x1311 : Word), 0x1313, 0x1324]) : runActions (identifying tail) 0 (s.clocked.advance n) =
      ({ (s.identified v rest) with clkEn := false, absent := true }.emit .clkOff).raise .notPresent := by
  have hcheck : chipAccepted ((s.identified v rest).advance (n + 1)).chipVer = false :=
    Bool.eq_false_iff.mpr (mt (chipAccepted_iff v).mp hv)
  rw [runActions_identifying_of_ack tail n hbus hin, versionTest,
    runActions_skipIf_of_false _ _ hcheck, clockDisable, runActions_update, runActions_update,
    runActions_raiseIf_of_true _ _ rfl]
  rfl

theorem runActions_identifying_of_error (hbus : s.bus = none) (hin : s.inputs = .reply .error :: rest) :
    runActions (identifying tail) 0 (s.clocked.advance n) =
      { s.clocked.exchanged (readOf s regChipVersion) .error rest with errInfo := 0x100 }.raise .busError := by
  rw [identifying, runActions_of_halt _ (memRead_of_error _ _ (s := s.clocked.advance n) hbus hin)]
  rfl

end

/-! ### What a part of the writes leaves -/

section
variable (on : Bool) {x : State} {ws : List (Byte × Word)}

/-- Writes leave nothing but the shadows and STREAM. -/
theorem foldl_took_eq (x : State) (ws : List (Byte × Word)) : ws.foldl (State.took on) x =
    { x with
      shadowCc := (ws.foldl (State.took on) x).shadowCc
      stream := (ws.foldl (State.took on) x).stream
      shadowAa := (ws.foldl (State.took on) x).shadowAa } := by
  induction ws generalizing x with
  | nil => rfl
  | cons w ws ih =>
    rw [List.foldl_cons, ih (x.took on w)]
    simp only [State.took]
    split
    · rfl
    · split <;> rfl

theorem took_shadowAa (x : State) (w : Byte × Word) :
    (x.took on w).shadowAa = ackedValue 0xAF x.shadowAa (some (writeTo x w.1 w.2)) := by
  obtain ⟨r, v⟩ := w
  by_cases hcc : r = regChipControl
  · subst hcc; rfl
  · by_cases haa : r = regAecAgcEnable
    · subst haa; rfl
    · rw [took_of_unshadowed on x v hcc haa]
      exact (if_neg haa).symm

/-- SHADOW_AA after some writes is what their record says (R92). -/
theorem foldl_took_shadowAa (x : State) (ws : List (Byte × Word)) (ds : List Word) (hlen : ds.length = ws.length) :
    (ws.foldl (State.took on) x).shadowAa = lastAcked 0xAF 0x0003 x.shadowAa none (writesAcked x ws ds) := by
  induction ws generalizing x ds with
  | nil => rfl
  | cons w ws ih =>
    obtain _ | ⟨d, ds⟩ := ds
    · simp at hlen
    rw [List.foldl_cons, ih (x.took on w) ds (by simpa using hlen), took_shadowAa,
      writesAcked_of_params (took_params on x w), writesAcked_cons]
    rfl

/-- SHADOW_CC and STREAM are written only with CHIP_CONTROL. -/
theorem foldl_took_of_not_chipControl (x : State) (h : ∀ w ∈ ws, w.1 ≠ regChipControl) :
    (ws.foldl (State.took on) x).shadowCc = x.shadowCc ∧ (ws.foldl (State.took on) x).stream = x.stream := by
  induction ws generalizing x with
  | nil => exact ⟨rfl, rfl⟩
  | cons w ws ih =>
    obtain ⟨hw, hws⟩ := List.forall_mem_cons.mp h
    obtain ⟨hcc, hstream⟩ := ih (x.took on w) hws
    rw [List.foldl_cons, hcc, hstream, State.took, if_neg hw]
    split <;> exact ⟨rfl, rfl⟩

end

/-- CHIP_CONTROL is the third write of PHYS_ON, and none after it is to that register. -/
theorem foldl_took_of_physOnWrites {x : State} {done later : List (Byte × Word)}
    (hws : physOnWrites x = done ++ later) :
    (done.foldl (State.took false) x).shadowCc = (if done.length < 3 then x.shadowCc else 0) ∧
      (done.foldl (State.took false) x).stream = (if done.length < 3 then x.stream else false) := by
  rw [physOnWrites_eq] at hws
  match done, hws with
  | [], _ => exact ⟨rfl, rfl⟩
  | [_], hws =>
    obtain ⟨rfl, -⟩ := List.cons.inj hws
    exact ⟨rfl, rfl⟩
  | [_, _], hws =>
    obtain ⟨rfl, hsnd⟩ := List.cons.inj hws
    obtain ⟨rfl, -⟩ := List.cons.inj hsnd
    exact ⟨rfl, rfl⟩
  | _ :: _ :: _ :: done, hws =>
    obtain ⟨rfl, hsnd⟩ := List.cons.inj hws
    obtain ⟨rfl, hthird⟩ := List.cons.inj hsnd
    obtain ⟨rfl, hafter⟩ := List.cons.inj hthird
    have hdone : ∀ w ∈ done, w.1 ≠ regChipControl := fun w hw =>
      not_chipControl_of_mem_writesAfterChipControl x w (hafter ▸ List.mem_append_left later hw)
    exact foldl_took_of_not_chipControl false { x with shadowCc := 0, stream := false } hdone

/-! ### POWER_UP and OPEN from count 0 -/

theorem tried_bus (s : State) (i : Instr) : (s.tried i).bus = s.bus := by
  simp only [State.tried]
  split <;> rfl

theorem tried_inputs (s : State) (i : Instr) : (s.tried i).inputs = s.inputs := by
  simp only [State.tried]
  split <;> rfl

theorem identified_traced (s : State) (v : Word) (l : List Input) :
    (s.identified v l).traced l (s.log ++ identification s v) = s.identified v l := rfl

section
variable {s : State} {i : Instr} (hi : i = .powerUp ∨ i = .openSession) (hs : s.Starts) (hcount : s.powerCount = 0)
  (hpresent : s.absent = false)
include hi hs hcount hpresent

/-- The power-on branch from its start, for either command. -/
theorem exec_of_present : ∃ tail n, exec i s = .next (runActions
    (identifying (physOnWriting ++ (countedOne ++ tail))) 0 ((s.tried i).clocked.advance n)) := by
  have hpresent' : (s.tried i).absent = false := by rcases hi with rfl | rfl <;> exact hpresent
  obtain ⟨tail, n, hexec⟩ := exec_of_cold hi hs hcount
  exact ⟨tail, n + 3, by rw [hexec, runActions_coldBranch _ _ hpresent']⟩

theorem exec_of_refused {v : Word} {rest : List Input} (hv : v ∉ [(0x1311 : Word), 0x1313, 0x1324])
    (hin : s.inputs = .reply (.ack v) :: rest) : exec i s =
      .next (({ (s.tried i).identified v rest with clkEn := false, absent := true }.emit .clkOff).raise
        .notPresent) := by
  obtain ⟨tail, n, hexec⟩ := exec_of_present hi hs hcount hpresent
  rw [hexec, runActions_identifying_of_refused _ n ((tried_bus s i).trans hs.1.2) ((tried_inputs s i).trans hin) hv]

theorem exec_of_unidentified {rest : List Input} (hin : s.inputs = .reply .error :: rest) : exec i s =
    .next ({ (s.tried i).clocked.exchanged (readOf (s.tried i) regChipVersion) .error rest with
      errInfo := 0x100 }.raise .busError) := by
  obtain ⟨tail, n, hexec⟩ := exec_of_present hi hs hcount hpresent
  rw [hexec, runActions_identifying_of_error _ n ((tried_bus s i).trans hs.1.2) ((tried_inputs s i).trans hin)]

/-- Behind an accepted identification both commands come to the writes of PHYS_ON. -/
theorem exec_of_accepted {v : Word} {rest : List Input} (hv : v ∈ [(0x1311 : Word), 0x1313, 0x1324])
    (hin : s.inputs = .reply (.ack v) :: rest) : ∃ tail n, exec i s = .next (runActions
      (physOnWriting ++ (countedOne ++ tail)) 0 (((s.tried i).identified v rest).advance n)) := by
  obtain ⟨tail, n, hexec⟩ := exec_of_present hi hs hcount hpresent
  refine ⟨tail, n + 5, ?_⟩
  rw [hexec, runActions_identifying_of_accepted _ n ((tried_bus s i).trans hs.1.2) ((tried_inputs s i).trans hin) hv]

/-- All writes acknowledged, the count is 1 (R143). -/
theorem exec_of_poweredOn {v : Word} {ds : List Word} {rest : List Input}
    (hv : v ∈ [(0x1311 : Word), 0x1313, 0x1324]) (hlen : ds.length = (physOnWrites s).length)
    (hin : s.inputs = .reply (.ack v) :: acks ds ++ rest) :
    exec i s = .next ({ (s.tried i).poweredOn v with
      powerCount := 1, inputs := rest
      log := s.log ++ identification s v ++ writesAcked s (physOnWrites s) ds }.complete .ok) := by
  obtain ⟨tail, n, hexec⟩ := exec_of_accepted (rest := acks ds ++ rest) hi hs hcount hpresent hv hin
  have hbus : ((s.tried i).identified v (acks ds ++ rest)).bus = none := (tried_bus s i).trans hs.1.2
  have hwrites : physOnWrites ((s.tried i).identified v (acks ds ++ rest)) = physOnWrites s := by
    rcases hi with rfl | rfl <;> rfl
  obtain ⟨m, hrun⟩ := (makes_physOn hbus).run (countedOne ++ tail) rest n
    ((s.tried i).log ++ identification (s.tried i) v) ds (hwrites ▸ hlen)
  rw [identified_traced, foldl_took_physOnWrites, hwrites] at hrun
  rw [hexec, hrun, countedOne, List.cons_append, runActions_update, List.cons_append, runActions_completeOk]
  rcases hi with rfl | rfl <;> rfl

/-- A write of PHYS_ON fails after acknowledges of those before it. -/
theorem exec_of_physOn_failed {v : Word} {ds : List Word} {done later : List (Byte × Word)} {w : Byte × Word}
    {rest : List Input} (hv : v ∈ [(0x1311 : Word), 0x1313, 0x1324]) (hws : physOnWrites s = done ++ w :: later)
    (hlen : ds.length = done.length) (hin : s.inputs = .reply (.ack v) :: acks ds ++ .reply .error :: rest) :
    exec i s = .next (({ s.tried i with
      clkEn := true, chipVer := v, inputs := rest
      shadowCc := if done.length < 3 then s.shadowCc else 0
      stream := if done.length < 3 then s.stream else false
      shadowAa := lastAcked 0xAF 0x0003 s.shadowAa none (writesAcked s done ds)
      log := s.log ++ identification s v ++ writesAcked s done ds ++ [.bus (writeTo s w.1 w.2), .answer .error]
      } : State).writeFailed w.1) := by
  obtain ⟨tail, n, hexec⟩ := exec_of_accepted (rest := acks ds ++ .reply .error :: rest) hi hs hcount hpresent hv hin
  have hbus : ((s.tried i).identified v (acks ds ++ .reply .error :: rest)).bus = none := (tried_bus s i).trans hs.1.2
  have hws' : physOnWrites ((s.tried i).identified v (acks ds ++ .reply .error :: rest)) = done ++ w :: later := by
    rcases hi with rfl | rfl <;> exact hws
  obtain ⟨hcc, hstream⟩ := foldl_took_of_physOnWrites hws'
  have hrun := (makes_physOn hbus).fail (countedOne ++ tail) rest n
    ((s.tried i).log ++ identification (s.tried i) v) done ds hws' hlen
  rw [identified_traced, foldl_took_eq, hcc, hstream, foldl_took_shadowAa false _ done ds hlen] at hrun
  rw [hexec, hrun]
  rcases hi with rfl | rfl <;> rfl

end

/-- Settles O25: the refusal of `exec_of_refused` for either command. -/
theorem identificationMismatch : Obligations.IdentificationMismatch := fun _ _ _ hs hcount hpresent hv hin =>
  ⟨exec_of_refused (.inl rfl) hs hcount hpresent hv hin, exec_of_refused (.inr rfl) hs hcount hpresent hv hin⟩

/-- Settles O23: `exec_of_poweredOn` for POWER_UP, which leaves the try-state. -/
theorem powerUpFromCold : Obligations.PowerUpFromCold := fun _ _ _ _ hs hcount hpresent hv hlen hin =>
  exec_of_poweredOn (.inl rfl) hs hcount hpresent hv hlen hin

/-- Settles O27: `exec_of_poweredOn` for OPEN, which has reset the try-state. -/
theorem openFromCold : Obligations.OpenFromCold := fun _ _ _ _ hs hcount hpresent hv hlen hin =>
  exec_of_poweredOn (.inr rfl) hs hcount hpresent hv hlen hin

/-- Settles O26: the failing transaction is the read, or the first write that is not acknowledged. -/
theorem physOnBusErrorKeepsClock : Obligations.PhysOnBusErrorKeepsClock := by
  intro s i hs hcount hpresent hi s'
  refine ⟨fun rest hin => ?_, fun v ds done r x later rest hv hws hlen hin =>
    exec_of_physOn_failed hi hs hcount hpresent hv hws hlen hin⟩
  rw [exec_of_unidentified hi hs hcount hpresent hin, clocked_exchanged]
  rcases hi with rfl | rfl <;> rfl

end Sys2Proof.Machine

/-! PROOFS. Reference counting (R145, R256): what one request does to the count and to the clock, and from it what a
balanced sequence of requests does. -/

namespace Sys2Proof.Machine

/-! ### What a request finds and leaves -/

/-- Live and with an idle bus, the chip not found absent, the count `k`, and the clock on exactly when the count is
positive. -/
structure State.Counted (s : State) (k : Nat) : Prop where
  bus : s.bus = none
  live : s.Live
  present : s.absent = false
  count : s.powerCount.toNat = k
  clock : s.clkEn = true ↔ 0 < k

theorem State.Counted.complete {s : State} {k : Nat} (h : s.Counted k) (c : ResultCode) : (s.complete c).Counted k :=
  ⟨h.bus, h.live, h.present, h.count, h.clock⟩

/-- The state in which an issued command starts. -/
def State.issued (s : State) (i : Instr) (l : List Input) : State := { s.accept (encode i) with inputs := l }

theorem State.Counted.issued {s : State} {k : Nat} (h : s.Counted k) (i : Instr) (l : List Input) :
    (s.issued i l).Counted k ∧ (s.issued i l).Starts :=
  ⟨⟨h.bus, h.live, h.present, h.count, h.clock⟩, ⟨rfl, h.bus⟩, h.live⟩

theorem issueCommand_of_exec {s t : State} {i : Instr} {l : List Input} (h : exec i (s.issued i l) = .next t) :
    issueCommand i l s = t := by
  rw [State.issued] at h
  rw [issueCommand, h]

/-! ### One request -/

section
variable {s : State} {k : Nat} {i : Instr}

theorem State.Counted.withCount (h : s.Counted k) {c : Word} (hc : 0 < c.toNat) (hk : 0 < k) :
    (s.withCount c).Counted c.toNat :=
  ⟨h.bus, h.live, h.present, rfl, iff_of_true (h.clock.mpr hk) hc⟩

theorem State.Counted.tried (h : s.Counted k) (i : Instr) : (s.tried i).Counted k := by
  rw [State.tried]
  split
  · exact ⟨h.bus, h.live, h.present, h.count, h.clock⟩
  · exact h

/-- What the power-on branch leaves is counted 1. -/
theorem counted_poweredOn (h : s.Counted k) (v : Word) (l : List Input) (es : List Event) :
    ({ s.poweredOn v with powerCount := 1, inputs := l, log := es } : State).Counted 1 :=
  ⟨h.bus, h.live, h.present, rfl, iff_of_true rfl Nat.one_pos⟩

/-- At a positive count POWER_UP and OPEN both count up (R143, R250). -/
theorem exec_of_counted (hi : i = .powerUp ∨ i = .openSession) (hs : s.Starts) (hcount : s.powerCount ≠ 0)
    (hbelow : s.powerCount ≠ 65535) :
    exec i s = .next (((s.tried i).withCount (s.powerCount + 1)).complete .ok) := by
  rcases hi with rfl | rfl
  · exact (powerUpCountsOrRefuses s hs).1 hcount hbelow
  · exact (openCountsOrRefuses s hs).1 hcount hbelow

theorem physOnWrites_length_le (s : State) : (physOnWrites s).length ≤ 10 := by
  rw [physOnWrites_eq, writesAfterChipControl]
  cases s.params.pclkInv <;> simp [replayWrites]

/-- A bus that has enough acknowledges gives the power-on branch those it takes, and keeps the others. -/
theorem healthyBus_eq (v : Word) (ds : List Word) (n : Nat) :
    healthyBus v ds = .reply (.ack v) :: acks (ds.take n) ++ acks (ds.drop n) := by
  rw [healthyBus, List.cons_append, acks, acks, acks, ← List.map_append, List.take_append_drop]

/-- POWER_UP and OPEN on a healthy bus raise the count. -/
theorem exec_up_counted (h : s.Counted k) (hs : s.Starts) (hi : i = .powerUp ∨ i = .openSession) {v : Word}
    {ds : List Word} (hv : v ∈ [(0x1311 : Word), 0x1313, 0x1324]) (hds : 10 ≤ ds.length)
    (hin : s.inputs = healthyBus v ds) (hk : k < 65535) : ∃ t, exec i s = .next t ∧ t.Counted (k + 1) := by
  have hcount := h.count
  by_cases hcold : s.powerCount = 0
  · obtain rfl : k = 0 := by simp [← hcount, hcold]
    have hlen : (ds.take (physOnWrites s).length).length = (physOnWrites s).length :=
      List.length_take_of_le ((physOnWrites_length_le s).trans hds)
    rw [healthyBus_eq v ds (physOnWrites s).length] at hin
    exact ⟨_, exec_of_poweredOn hi hs hcold h.present hv hlen hin, (counted_poweredOn (h.tried i) _ _ _).complete _⟩
  · have hnext : (s.powerCount + 1).toNat = k + 1 := by bv_omega
    have hbelow : s.powerCount ≠ 65535 := by bv_omega
    refine ⟨_, exec_of_counted hi hs hcold hbelow, ?_⟩
    rw [← hnext]
    exact ((h.tried i).withCount (by omega) (by bv_omega)).complete _

/-- POWER_DOWN and CLOSE lower a positive count. -/
theorem exec_down_counted (h : s.Counted (k + 1)) (hs : s.Starts) (hi : scriptOf i = releaseScript) :
    ∃ t, exec i s = .next t ∧ t.Counted k := by
  have hcount := h.count
  by_cases hlast : s.powerCount = 1
  · obtain rfl : k = 0 := by simpa [hlast] using hcount.symm
    exact ⟨_, exec_release_of_last hi hs hlast, h.bus, h.live, h.present, rfl, by simp⟩
  · have hshared : 1 < s.powerCount.toNat := by bv_omega
    have hnext : (s.powerCount - 1).toNat = k := by bv_omega
    refine ⟨_, exec_release_of_shared hi hs hshared, ?_⟩
    rw [← hnext]
    exact (h.withCount (by omega) k.succ_pos).complete _

end

/-! ### A balanced sequence of requests -/

theorem instr_of_raises {r : PowerRequest} (h : r.raises = true) : r.instr = .powerUp ∨ r.instr = .openSession := by
  cases r with
  | powerUp => exact .inl rfl
  | openSession => exact .inr rfl
  | powerDown => cases h
  | closeSession => cases h

theorem scriptOf_of_not_raises {r : PowerRequest} (h : r.raises = false) : scriptOf r.instr = releaseScript := by
  cases r with
  | powerUp => cases h
  | openSession => cases h
  | powerDown => rfl
  | closeSession => rfl

theorem issueAll_append_singleton (ps : List PowerIssue) (p : PowerIssue) (s : State) :
    issueAll (ps ++ [p]) s = issueCommand p.request.instr (healthyBus p.version p.data) (issueAll ps s) := by
  rw [issueAll, List.foldl_append]
  rfl

/-- Ups minus downs, in the naturals. -/
def surplus (rs : List PowerRequest) : Nat := ups rs - downs rs

theorem balancedRequests_bounds {rs : List PowerRequest} (h : balancedRequests rs) :
    downs rs ≤ ups rs ∧ surplus rs ≤ 65535 := by
  simpa [pwrCntMax, surplus] using h rs.length

theorem surplus_append_up {rs : List PowerRequest} {r : PowerRequest} (hr : r.raises = true)
    (h : downs rs ≤ ups rs) : surplus (rs ++ [r]) = surplus rs + 1 := by
  have hups : ups (rs ++ [r]) = ups rs + 1 := by simp [ups, hr]
  have hdowns : downs (rs ++ [r]) = downs rs := by simp [downs, hr]
  rw [surplus, surplus, hups, hdowns, Nat.sub_add_comm h]

theorem surplus_append_down {rs : List PowerRequest} {r : PowerRequest} (hr : r.raises = false)
    (h : downs (rs ++ [r]) ≤ ups (rs ++ [r])) : surplus rs = surplus (rs ++ [r]) + 1 := by
  have hups : ups (rs ++ [r]) = ups rs := by simp [ups, hr]
  have hdowns : downs (rs ++ [r]) = downs rs + 1 := by simp [downs, hr]
  rw [hups, hdowns] at h
  rw [surplus, surplus, hups, hdowns]
  omega

/-- A balanced sequence is balanced up to each of its requests (R145). -/
theorem balancedRequests_of_append {rs rs' : List PowerRequest} (h : balancedRequests (rs ++ rs')) :
    balancedRequests rs := fun n => by
  have hfirst := h (min n rs.length)
  rwa [List.take_append_of_le_length (Nat.min_le_right _ _), ← List.take_eq_take_min] at hfirst

/-- After a balanced sequence of requests the count is the surplus. -/
theorem counted_issueAll {s : State} (hs : s.Counted 0) (ps : List PowerIssue) (hhealthy : ∀ p ∈ ps, p.Healthy)
    (hbalanced : balancedRequests (ps.map PowerIssue.request)) :
    (issueAll ps s).Counted (surplus (ps.map PowerIssue.request)) := by
  induction ps using List.reverseRecOn with
  | nil => exact hs
  | append_singleton ps p ih =>
    obtain ⟨hps, hp⟩ := List.forall_mem_append.mp hhealthy
    obtain ⟨hversion, hdata⟩ := hp p (List.mem_singleton_self p)
    rw [List.map_append, List.map_singleton] at hbalanced ⊢
    have hinit := balancedRequests_of_append hbalanced
    obtain ⟨hle, -⟩ := balancedRequests_bounds hinit
    obtain ⟨hle', hmax'⟩ := balancedRequests_bounds hbalanced
    obtain ⟨hcounted, hstarts⟩ := (ih hps hinit).issued p.request.instr (healthyBus p.version p.data)
    rw [issueAll_append_singleton]
    cases hraises : p.request.raises with
    | true =>
      rw [surplus_append_up hraises hle] at hmax' ⊢
      obtain ⟨t, hexec, ht⟩ := exec_up_counted hcounted hstarts (instr_of_raises hraises) hversion hdata rfl hmax'
      rwa [issueCommand_of_exec hexec]
    | false =>
      rw [surplus_append_down hraises hle'] at hcounted
      obtain ⟨t, hexec, ht⟩ := exec_down_counted hcounted hstarts (scriptOf_of_not_raises hraises)
      rwa [issueCommand_of_exec hexec]

/-- Settles O32: a quiet cold controller is counted 0, and the surplus is positive when ups outnumber downs. -/
theorem referenceCounting : Obligations.ReferenceCounting := by
  intro ps s hquiet hlive hpresent hcount hclk hhealthy rs hbalanced
  obtain ⟨-, -, hbus, -⟩ := hquiet
  have hcold : s.Counted 0 := ⟨hbus, hlive, hpresent, by simp [hcount], by simp [hclk]⟩
  have hcounted := counted_issueAll hcold ps hhealthy hbalanced
  exact ⟨hcounted.count, hcounted.clock.trans Nat.sub_pos_iff_lt⟩

end Sys2Proof.Machine
